-- ==== Sys2Proof/Word.lean ====
section
/-! DEFINITION. The words of the NJ440: bytes, logical and physical addresses, register window offsets
(00_scope, Conventions and Terms). -/
namespace Sys2Proof

/-- One byte: a register, or the data of a cycle. -/
abbrev Byte := BitVec 8
/-- A 16-bit logical address, A0 to A15 (00_scope, Terms). -/
abbrev LogAddr := BitVec 16
/-- A 24-bit physical address, MA0 to MA23 (00_scope, Terms). -/
abbrev PhysAddr := BitVec 24
/-- An offset in the register window, A0 to A6 (R153). -/
abbrev Offset := BitVec 7

end Sys2Proof
end

