-- ==== Sys2Proof/Syntax.lean ====
section
/-! DEFINITION. The commands of the NJ440: one constructor per row of spec/opcode_table.json. -/
namespace Sys2Proof

/-- The processor's pins at the moment a cycle is taken: RD, WR, A0 to A15 and D0 to D7 (R32, R153). -/
structure BusPins where
  rd : Bool
  wr : Bool
  addr : LogAddr
  data : Byte
  deriving DecidableEq, Repr

/-- The commands. A strobe or register write carries the data byte of its register window cycle. -/
inductive Instr where
  /-- ENQ (R95, R96): the data byte names the channel. -/
  | enq (data : Byte)
  /-- START (R120). -/
  | start (data : Byte)
  /-- HOLD (R121). -/
  | hold (data : Byte)
  /-- RESUME (R122). -/
  | resume (data : Byte)
  /-- SKIP (R123). -/
  | skip (data : Byte)
  /-- FLUSH (R124). -/
  | flush (data : Byte)
  /-- WLOAD (R9, R10): the data byte names the window. -/
  | wload (data : Byte)
  /-- WREAD (R11). -/
  | wread (data : Byte)
  /-- RLOAD (R24 to R29): the data byte names the region. -/
  | rload (data : Byte)
  /-- RREAD (R30). -/
  | rread (data : Byte)
  /-- LOGPOP (R137): the data byte is disregarded. -/
  | logpop (data : Byte)
  /-- FLTPOP (R144): the data byte is disregarded. -/
  | fltpop (data : Byte)
  /-- PARK (R83): the data byte is disregarded. -/
  | park (data : Byte)
  /-- WAKE (R87): the data byte is disregarded. -/
  | wake (data : Byte)
  /-- CTLRST (R158): the data byte is disregarded. -/
  | ctlrst (data : Byte)
  /-- CHSTAT_READ (R156), the one row that is a register read: a read of CHSTAT unless another offset is named
  (R154; log 35). -/
  | chstatRead (off : Offset := 0x13)
  /-- RFINT_WRITE (R76): `high` says which of the two offsets is written. -/
  | rfintWrite (high : Bool) (data : Byte)
  /-- RFURG_WRITE (R80). -/
  | rfurgWrite (data : Byte)
  /-- CHCFG_WRITE (R103). -/
  | chcfgWrite (data : Byte)
  /-- INTCAUSE_WRITE (R150). -/
  | intcauseWrite (data : Byte)
  /-- INTEN_WRITE (R149). -/
  | intenWrite (data : Byte)
  /-- ARBMODE_WRITE (R57). -/
  | arbmodeWrite (data : Byte)
  /-- REGISTER_WRITE (R154): a write of `data` at `off`. -/
  | registerWrite (off : Offset) (data : Byte)
  /-- PIN_RESET (R159). -/
  | pinReset
  /-- MEMORY_CYCLE (R32): MEMC becomes active with these pins. -/
  | memoryCycle (pins : BusPins)
  /-- HELD_CYCLE_SERVED (R43): the pins are those presented at that moment. -/
  | heldCycleServed (pins : BusPins)
  /-- CYCLE_END (R42): MEMC becomes inactive. -/
  | cycleEnd
  /-- TRQ_ASSERT (R114): an asserting edge on TRQn. -/
  | trqAssert (n : Fin 4)
  /-- TRQ_DEASSERT (R116). -/
  | trqDeassert (n : Fin 4)
  /-- PORT_GRANT (R48). -/
  | portGrant
  /-- ACCESS_COMPLETE (R40): `md` is the byte on MD0 to MD7 at the end of a READ. -/
  | accessComplete (md : Byte)
  /-- UNIT_READ_COMPLETE (R63): `md` is the byte the READ takes. -/
  | unitReadComplete (md : Byte)
  /-- UNIT_COMPLETE (R110). -/
  | unitComplete
  /-- PENDING_FLAGS_ACTED (R125) on channel n. -/
  | pendingFlagsActed (n : Fin 4)
  /-- CONFIGURATION_IN_USE (R104) on channel n. -/
  | configurationInUse (n : Fin 4)
  /-- COMPLETION_RECORD_TAKEN (R134). -/
  | completionRecordTaken
  /-- ROW_OPEN (R65): a ROW_OPEN completes. -/
  | rowOpen
  /-- ROW_CLOSE (R64, R65): a ROW_CLOSE completes. -/
  | rowClose
  /-- TIMEOUT (R68). -/
  | timeout
  /-- RESIDUAL_END (R55). -/
  | residualEnd
  /-- REFRESH (R69): a REFRESH completes. -/
  | refresh
  /-- INTERVAL_TIMER_EXPIRY (R78). -/
  | intervalTimerExpiry
  /-- PARK_STEP (R85): the park step begins. -/
  | parkStep
  /-- SELF_REFRESH_ENTER (R70): a SELF_REFRESH_ENTER completes. -/
  | selfRefreshEnter
  /-- SELF_REFRESH_EXIT (R88): a SELF_REFRESH_EXIT completes. -/
  | selfRefreshExit
  deriving DecidableEq, Repr

/-- The offset and data byte of the register window write a command makes (R153, 11.6 Register Map);
none for a command that is no register window write. -/
def Instr.windowWrite : Instr → Option (Offset × Byte)
  | .enq d => some (0x0A, d)
  | .start d => some (0x0B, d)
  | .hold d => some (0x0C, d)
  | .resume d => some (0x0D, d)
  | .skip d => some (0x0E, d)
  | .flush d => some (0x0F, d)
  | .wload d => some (0x25, d)
  | .wread d => some (0x26, d)
  | .rload d => some (0x2E, d)
  | .rread d => some (0x2F, d)
  | .logpop d => some (0x36, d)
  | .fltpop d => some (0x40, d)
  | .park d => some (0x48, d)
  | .wake d => some (0x49, d)
  | .ctlrst d => some (0x4F, d)
  | .chstatRead _ => none
  | .rfintWrite high d => some (if high then 0x45 else 0x44, d)
  | .rfurgWrite d => some (0x46, d)
  | .chcfgWrite d => some (0x1D, d)
  | .intcauseWrite d => some (0x4E, d)
  | .intenWrite d => some (0x4D, d)
  | .arbmodeWrite d => some (0x4C, d)
  | .registerWrite off d => some (off, d)
  | .pinReset => none
  | .memoryCycle _ => none
  | .heldCycleServed _ => none
  | .cycleEnd => none
  | .trqAssert _ => none
  | .trqDeassert _ => none
  | .portGrant => none
  | .accessComplete _ => none
  | .unitReadComplete _ => none
  | .unitComplete => none
  | .pendingFlagsActed _ => none
  | .configurationInUse _ => none
  | .completionRecordTaken => none
  | .rowOpen => none
  | .rowClose => none
  | .timeout => none
  | .residualEnd => none
  | .refresh => none
  | .intervalTimerExpiry => none
  | .parkStep => none
  | .selfRefreshEnter => none
  | .selfRefreshExit => none

end Sys2Proof
end

