-- ==== Sys2Proof/WellFormed.lean ====
section
/-! DEFINITION. Which commands are spelt as the table spells them. The operand types already keep a
channel number to 0 to 3 and an offset to 00h to 7Fh; what is left to check is that REGISTER_WRITE names
"a read-write register that has no behaviour of its own" (the row's words, R154): every other register
has a row of its own for its writes. A read may name any offset (R154; log 35). -/
namespace Sys2Proof

/-- The access types of R154. -/
inductive RegAccess where
  | readWrite
  | readOnly
  | strobe
  | unused
  deriving DecidableEq, Repr

/-- The access type of an offset (11.6 Register Map). INTCAUSE is "read; write 1 to clear": it is
writable, so it stands with the read-write registers here. -/
def Offset.access (off : Offset) : RegAccess :=
  let o := off.toNat
  if o ≤ 0x09 then .readWrite
  else if o ≤ 0x0F then .strobe
  else if o ≤ 0x11 then .readOnly
  else if o = 0x12 then .readWrite
  else if o ≤ 0x1C then .readOnly
  else if o = 0x1D then .readWrite
  else if o = 0x1E then .readOnly
  else if o = 0x1F then .unused
  else if o ≤ 0x24 then .readWrite
  else if o ≤ 0x26 then .strobe
  else if o = 0x27 then .unused
  else if o ≤ 0x2D then .readWrite
  else if o ≤ 0x2F then .strobe
  else if o ≤ 0x35 then .readOnly
  else if o = 0x36 then .strobe
  else if o = 0x37 then .unused
  else if o ≤ 0x3F then .readOnly
  else if o = 0x40 then .strobe
  else if o ≤ 0x43 then .unused
  else if o ≤ 0x46 then .readWrite
  else if o = 0x47 then .readOnly
  else if o ≤ 0x49 then .strobe
  else if o ≤ 0x4B then .unused
  else if o ≤ 0x4E then .readWrite
  else if o = 0x4F then .strobe
  else .unused

/-- The read-write registers with no behaviour of their own: the three staging records (R8, R23, R94)
and CHSEL (R156). -/
def Offset.plain (off : Offset) : Bool :=
  let o := off.toNat
  o ≤ 0x09 || o = 0x12 || (0x20 ≤ o && o ≤ 0x24) || (0x28 ≤ o && o ≤ 0x2D)

/-- A command is well formed when a REGISTER_WRITE names a plain register. -/
def Instr.wf : Instr → Bool
  | .registerWrite off _ => off.plain
  | _ => true

end Sys2Proof
end

