-- ==== Sys2Proof/Decode.lean ====
section
/-! DEFINITION. The commands that a word spells. Every row of spec/opcode_table.json has an empty
"fields" list and no fixed bits (98_reader: "n_rows_with_fixed": 0), so no word spells a command. -/
namespace Sys2Proof

/-- The command that the `nbits` bits of `w` spell by the table: the table gives no row any bits. -/
def decodeTableWord (_nbits _w : Nat) : Option Instr := none

end Sys2Proof
end

