-- ==== Sys2Proof/Machine/State.lean ====
section
/-! DEFINITION. The state of the NJ440 as plain data, block by block as in the table of blocks of 00_scope
(Internal Structure), and its value after pin reset. -/
namespace Sys2Proof.Machine

/-! ### Collections of a fixed number of like things -/

/-- Four like things numbered 0 to 3: channels, regions, region selects. -/
structure Quad (α : Type) where
  q0 : α
  q1 : α
  q2 : α
  q3 : α
  deriving DecidableEq, Repr

def Quad.get {α : Type} (q : Quad α) (i : Fin 4) : α :=
  match i with
  | 0 => q.q0
  | 1 => q.q1
  | 2 => q.q2
  | 3 => q.q3

def Quad.set {α : Type} (q : Quad α) (i : Fin 4) (a : α) : Quad α :=
  match i with
  | 0 => { q with q0 := a }
  | 1 => { q with q1 := a }
  | 2 => { q with q2 := a }
  | 3 => { q with q3 := a }

def Quad.map {α β : Type} (f : α → β) (q : Quad α) : Quad β :=
  ⟨f q.q0, f q.q1, f q.q2, f q.q3⟩

def Quad.all {α : Type} (p : α → Bool) (q : Quad α) : Bool :=
  p q.q0 && p q.q1 && p q.q2 && p q.q3

def Quad.any {α : Type} (p : α → Bool) (q : Quad α) : Bool :=
  p q.q0 || p q.q1 || p q.q2 || p q.q3

/-- Eight like things numbered 0 to 7: the windows. -/
structure Oct (α : Type) where
  o0 : α
  o1 : α
  o2 : α
  o3 : α
  o4 : α
  o5 : α
  o6 : α
  o7 : α
  deriving DecidableEq, Repr

def Oct.get {α : Type} (q : Oct α) (i : Fin 8) : α :=
  match i with
  | 0 => q.o0
  | 1 => q.o1
  | 2 => q.o2
  | 3 => q.o3
  | 4 => q.o4
  | 5 => q.o5
  | 6 => q.o6
  | 7 => q.o7

def Oct.set {α : Type} (q : Oct α) (i : Fin 8) (a : α) : Oct α :=
  match i with
  | 0 => { q with o0 := a }
  | 1 => { q with o1 := a }
  | 2 => { q with o2 := a }
  | 3 => { q with o3 := a }
  | 4 => { q with o4 := a }
  | 5 => { q with o5 := a }
  | 6 => { q with o6 := a }
  | 7 => { q with o7 := a }

def Oct.toList {α : Type} (q : Oct α) : List α :=
  [q.o0, q.o1, q.o2, q.o3, q.o4, q.o5, q.o6, q.o7]

/-! ### Window Translation Unit (R1, R8) -/

/-- The direction of a processor memory cycle or of an access. -/
inductive Direction where
  | read
  | write
  deriving DecidableEq, Repr

/-- One entry of the window table (R1). -/
structure WindowEntry where
  enable : Bool
  basePage : BitVec 4
  pageCount : Nat
  frameBase : BitVec 12
  readRight : Bool
  writeRight : Bool
  deriving DecidableEq, Repr

/-- The window staging record (R8). WFLAGS keeps its three flags: bit 0 enable, bit 1 read right, bit 2
write right (11.8). -/
structure WindowStaging where
  wbase : Byte
  wcount : Byte
  wframe : BitVec 16
  wflags : BitVec 3
  deriving DecidableEq, Repr

/-- The WTU: the window table and its staging record. -/
structure Wtu where
  windows : Oct WindowEntry
  staging : WindowStaging
  deriving DecidableEq, Repr

/-! ### Region Decoder (R15, R23) -/

/-- The two region kinds (R16). -/
inductive RegionKind where
  | static
  | dynamic
  deriving DecidableEq, Repr

/-- The four row sizes (R15). -/
inductive RowSize where
  | b512
  | b1024
  | b2048
  | b4096
  deriving DecidableEq, Repr

/-- One entry of the region table (R15). -/
structure RegionEntry where
  enable : Bool
  startFrame : BitVec 12
  endFrame : BitVec 12
  kind : RegionKind
  wait : BitVec 3
  writeProtect : Bool
  readyEnable : Bool
  rowSize : RowSize
  rowPenalty : BitVec 3
  deriving DecidableEq, Repr

/-- The region staging record (R23). RKIND keeps bits 5 to 0: row size code, kind code, enable; RATTR keeps
all eight bits (11.8). -/
structure RegionStaging where
  rstart : BitVec 16
  rend : BitVec 16
  rkind : BitVec 6
  rattr : Byte
  deriving DecidableEq, Repr

/-- The RGD: the region table and its staging record. -/
structure Rgd where
  regions : Quad RegionEntry
  staging : RegionStaging
  deriving DecidableEq, Repr

/-! ### Processor Bus Interface (R31) -/

/-- The phases of the PBI (R31). -/
inductive Phase where
  | idle
  | passive
  | waiting
  | access
  | ending
  deriving DecidableEq, Repr

/-- The cycle record of the PBI (R31). -/
structure CycleRecord where
  dir : Direction
  logical : LogAddr
  physical : Option PhysAddr
  region : Option (Fin 4)
  writeData : Option Byte
  readData : Option Byte
  deriving DecidableEq, Repr

/-- What kind of cycle the processor began while the previous one was being finished (R43). -/
inductive HeldCycle where
  | memory
  | window
  deriving DecidableEq, Repr

/-- The PBI. `memc`: the memory cycle last begun still has MEMC active (R32, R42, R43). `readOut`: the byte
driven on D0 to D7 by the register read last served (R153; its end is log 19). -/
structure Pbi where
  phase : Phase
  cycle : Option CycleRecord
  memc : Bool
  held : Option HeldCycle
  readOut : Option Byte
  deriving DecidableEq, Repr

/-! ### Port Arbiter (R46) -/

/-- The grant holder (R46). -/
inductive Holder where
  | none
  | refresh
  | processor
  | channel (n : Fin 4)
  | residual
  deriving DecidableEq, Repr

/-- The arbitration mode (R46, R57). -/
inductive ArbMode where
  | fixed
  | rotating
  deriving DecidableEq, Repr

/-- PARB. -/
structure Parb where
  holder : Holder
  pointer : Fin 4
  mode : ArbMode
  deriving DecidableEq, Repr

/-! ### Memory Sequencer (R58) -/

/-- One access with what was captured at its grant (R27, R58): `staleMark` says that a load taken since the
grant marked its region (R66). -/
structure Access where
  dir : Direction
  addr : PhysAddr
  region : Fin 4
  entry : RegionEntry
  staleMark : Bool
  deriving DecidableEq, Repr

/-- The open row record (R58). `stale` holds the close penalty when the record is stale (R66). `addr` is the
address of the first byte of the row, which MA0 to MA23 carry during its ROW_CLOSE (R59; log 15). -/
structure OpenRow where
  region : Fin 4
  row : Nat
  addr : PhysAddr
  stale : Option Nat
  deriving DecidableEq, Repr

/-- What the grant, or the RPC, has handed to MSEQ (R52, R72): the requester and its targets. -/
inductive Work where
  /-- One access of the PROCESSOR grant, with the write data. -/
  | processor (a : Access) (data : Byte)
  /-- The READ half of a unit of channel n, with both ends (R63). -/
  | unitRead (n : Fin 4) (src dst : Access)
  /-- The WRITE half of a unit of channel n, with the byte held (R63). -/
  | unitWrite (n : Fin 4) (dst : Access) (byte : Byte)
  /-- One REFRESH, with the selects captured at the grant (R69). -/
  | refresh (sel : Quad Bool)
  /-- SELF_REFRESH_ENTER of the park step (R70). -/
  | enter (sel : Quad Bool)
  /-- The stale ROW_CLOSE of a park step with no enabled DYNAMIC region (R66, R85). -/
  | parkClose
  /-- SELF_REFRESH_EXIT (R71). -/
  | wakeUp (sel : Quad Bool)
  /-- The ROW_CLOSE that follows a TIMEOUT (R68). -/
  | timeoutClose
  deriving DecidableEq, Repr

/-- The seven kinds of operation (R59). A ROW_CLOSE carries the row it closes and its close penalty. -/
inductive OpKind where
  | read
  | write
  | rowOpen
  | rowClose (row : OpenRow) (penalty : Nat)
  | refresh
  | selfRefreshEnter
  | selfRefreshExit
  deriving DecidableEq, Repr

/-- The operation in progress (R58): its kind, its clocks left (to the sample point for a READ or WRITE; 0
while XRDY extends it), and the work it belongs to. -/
structure Operation where
  kind : OpKind
  left : Nat
  work : Work
  deriving DecidableEq, Repr

/-- MSEQ. `ma` is what MA0 to MA23 carry; none is high impedance (R59, R74). -/
structure Mseq where
  op : Option Operation
  record : Option OpenRow
  extension : Nat
  ma : Option PhysAddr
  deriving DecidableEq, Repr

/-! ### Refresh and Park Controller (R75) -/

/-- The port states (R82). -/
inductive PortState where
  | running
  | draining
  | parked
  | waking
  deriving DecidableEq, Repr

/-- The wake cause; `Option.none` is the spec's "none" (R75). -/
inductive WakeCause where
  | strobe
  | processor
  deriving DecidableEq, Repr

/-- The RPC. `timer` is none when stopped, else the clocks left to the next expiry. -/
structure Rpc where
  portState : PortState
  debt : Nat
  timer : Option Nat
  rfint : BitVec 12
  rfurg : Nat
  parkStep : Bool
  wakeCause : Option WakeCause
  sref : Bool
  deriving DecidableEq, Repr

/-! ### Transfer Engine (R92, R103, R106) -/

/-- Address steps (R92). -/
inductive AddrStep where
  | inc
  | dec
  | fix
  deriving DecidableEq, Repr

/-- Pacing modes (R92). -/
inductive Pacing where
  | free
  | paced
  deriving DecidableEq, Repr

/-- A queued descriptor, with its progress fields in place of the addresses and count as staged (R98,
R100). -/
structure Descriptor where
  curSrc : PhysAddr
  curDst : PhysAddr
  remaining : BitVec 16
  srcStep : AddrStep
  dstStep : AddrStep
  pacing : Pacing
  notify : Bool
  stopAfter : Bool
  endSignal : Bool
  tag : Byte
  deriving DecidableEq, Repr

/-- The descriptor staging record (R94). -/
structure DescStaging where
  dsrc : BitVec 24
  ddst : BitVec 24
  dcnt : BitVec 16
  dmode : Byte
  dtag : Byte
  deriving DecidableEq, Repr

/-- Request senses (R103). -/
inductive Sense where
  | edge
  | level
  deriving DecidableEq, Repr

/-- A channel configuration (R103). -/
structure ChanConfig where
  sense : Sense
  burst : Nat
  deriving DecidableEq, Repr

/-- The channel states (R107). -/
inductive ChanState where
  | off
  | ready
  | busy
  | held
  | faulted
  | posting
  deriving DecidableEq, Repr

/-- The port request of a channel (R106). A claim for a FREE head carries its burst limit (R47); a grant keeps
that limit and the units moved under it (R53). -/
inductive PortRequest where
  | none
  | claim (limit : Option Nat)
  | grant (limit : Option Nat) (moved : Nat)
  deriving DecidableEq, Repr

/-- Completion statuses (R130). -/
inductive Status where
  | done
  | aborted
  deriving DecidableEq, Repr

/-- A completion record as the channel offers it, before CLOG numbers it (R118, R130). -/
structure Offer where
  status : Status
  tag : Byte
  remaining : BitVec 16
  notify : Bool
  deriving DecidableEq, Repr

/-- A transfer channel (R103, R106). `trq` is the level of TRQn; `tak` and `tend` are its drives of TAKn and
TEND (R117). -/
structure Channel where
  state : ChanState
  queue : List Descriptor
  latch : Bool
  overrun : Bool
  holdPending : Bool
  flushPending : Bool
  port : PortRequest
  stored : ChanConfig
  inUse : ChanConfig
  offer : Option Offer
  trq : Bool
  tak : Bool
  tend : Bool
  deriving DecidableEq, Repr

/-- The TXE. -/
structure Txe where
  chans : Quad Channel
  staging : DescStaging
  flushn : Nat
  deriving DecidableEq, Repr

/-! ### Completion Log (R129, R130) and Fault Log (R141, R142) -/

/-- A completion record held by CLOG (R130). -/
structure CompletionRecord where
  seq : Byte
  channel : Fin 4
  status : Status
  tag : Byte
  remaining : BitVec 16
  notify : Bool
  deriving DecidableEq, Repr

/-- CLOG: the records, oldest first, and the next-sequence counter. -/
structure Clog where
  records : List CompletionRecord
  nextSeq : Byte
  deriving DecidableEq, Repr

/-- Fault sources (R141). -/
inductive FaultSource where
  | processor
  | channel (n : Fin 4)
  deriving DecidableEq, Repr

/-- Fault kinds (R140). -/
inductive FaultKind where
  | rights
  | unmapped
  | protect
  | timeout
  | overrun
  deriving DecidableEq, Repr

/-- Directions of a fault record (R141). -/
inductive FaultDir where
  | read
  | write
  | none
  deriving DecidableEq, Repr

/-- A fault record (R141): an absent field is none. -/
structure FaultRecord where
  source : FaultSource
  kind : FaultKind
  dir : FaultDir
  logical : Option LogAddr
  physical : Option PhysAddr
  tag : Option Byte
  deriving DecidableEq, Repr

/-- FLOG: the records, oldest first, and the overflow flag. -/
structure Flog where
  records : List FaultRecord
  overflow : Bool
  deriving DecidableEq, Repr

/-! ### Interrupt Unit (R147, R149) and the register window (R155, R156) -/

/-- The IRU: the LOST and PORT flags and the enables, bit 0 LOG, 1 FAULT, 2 LOST, 3 PORT, 4 OVFL (11.8). -/
structure Iru where
  lost : Bool
  port : Bool
  inten : BitVec 5
  deriving DecidableEq, Repr

/-- The result codes (R155). -/
inductive ResultCode where
  | ok
  | busy
  | full
  | empty
  | badIndex
  | badState
  | badRecord
  | overlap
  deriving DecidableEq, Repr

/-- The snapshot registers (R156, R157). -/
structure Snapshot where
  chstat : Byte
  chsrc : PhysAddr
  chdst : PhysAddr
  chrem : BitVec 16
  chtag : Byte
  chpend : Byte
  deriving DecidableEq, Repr

/-- The registers of the register window that belong to no other block: RESULT, CHSEL and the snapshot. -/
structure WinRegs where
  result : ResultCode
  chsel : Fin 4
  snapshot : Snapshot
  deriving DecidableEq, Repr

/-! ### The whole state -/

/-- The state of the NJ440. `pending` is the queue of commands waiting, oldest first. `freeCount` is the
model's own: it makes each free value a fresh one (log 21). -/
structure State where
  pending : List Instr
  pbi : Pbi
  wtu : Wtu
  rgd : Rgd
  parb : Parb
  mseq : Mseq
  rpc : Rpc
  txe : Txe
  clog : Clog
  flog : Flog
  iru : Iru
  win : WinRegs
  freeCount : Nat
  deriving DecidableEq, Repr

/-- The part has no stop of its own: the spec gives every command an outcome in every state, so no
constructor stands here and no meaning raises a fault (log 28; safe: nothing can be claimed from it). -/
inductive Fault where
  deriving DecidableEq, Repr

/-- Refusals. -/
inductive Refusal where
  /-- Raised only by an arm of `exec` whose command has no meaning yet. Safe: nothing is claimed of such a
  command. No arm raises it now. -/
  | notModelled (mnemonic : String)
  deriving DecidableEq, Repr

/-! ### Pin reset -/

/-- W1 to W7 after pin reset (R2). -/
def WindowEntry.reset : WindowEntry :=
  { enable := false, basePage := 0, pageCount := 1, frameBase := 0, readRight := false, writeRight := false }

/-- The WTU after pin reset (R2, R8). -/
def Wtu.reset : Wtu :=
  { windows :=
      ⟨{ enable := true, basePage := 0, pageCount := 16, frameBase := 0, readRight := true, writeRight := true },
        WindowEntry.reset, WindowEntry.reset, WindowEntry.reset, WindowEntry.reset, WindowEntry.reset,
        WindowEntry.reset, WindowEntry.reset⟩,
    staging := { wbase := 0, wcount := 1, wframe := 0, wflags := 0 } }

/-- Regions 1 to 3 after pin reset (R18). -/
def RegionEntry.reset : RegionEntry :=
  { enable := false, startFrame := 0, endFrame := 0, kind := .static, wait := 7, writeProtect := false,
    readyEnable := true, rowSize := .b512, rowPenalty := 1 }

/-- The RGD after pin reset (R18, R23). -/
def Rgd.reset : Rgd :=
  { regions :=
      ⟨{ RegionEntry.reset with enable := true, endFrame := 0x0FF }, RegionEntry.reset, RegionEntry.reset,
        RegionEntry.reset⟩,
    staging := { rstart := 0, rend := 0, rkind := 0, rattr := 0 } }

/-- The PBI after pin reset (R31, R44). The level of MEMC is an input: DESIGN CHOICE inactive (log 18). -/
def Pbi.reset : Pbi :=
  { phase := .idle, cycle := none, memc := false, held := none, readOut := none }

/-- PARB after pin reset (R46). -/
def Parb.reset : Parb := { holder := .none, pointer := 3, mode := .fixed }

/-- MSEQ after pin reset (R58, R74). -/
def Mseq.reset : Mseq := { op := none, record := none, extension := 0, ma := none }

/-- The RPC after pin reset (R75). -/
def Rpc.reset : Rpc :=
  { portState := .running, debt := 0, timer := none, rfint := 0, rfurg := 4, parkStep := false,
    wakeCause := none, sref := false }

/-- EDGE and 4, the configuration after either reset (R103). -/
def ChanConfig.reset : ChanConfig := { sense := .edge, burst := 4 }

/-- A channel after either reset (R106), its line TRQn at the given level. -/
def Channel.reset (trq : Bool) : Channel :=
  { state := .off, queue := [], latch := false, overrun := false, holdPending := false, flushPending := false,
    port := .none, stored := ChanConfig.reset, inUse := ChanConfig.reset, offer := none, trq := trq,
    tak := false, tend := false }

/-- The TXE after pin reset (R94, R99, R106), its request lines at the given levels. -/
def Txe.reset (trq : Quad Bool) : Txe :=
  { chans := trq.map Channel.reset,
    staging := { dsrc := 0, ddst := 0, dcnt := 0, dmode := 0, dtag := 0 },
    flushn := 0 }

/-- The snapshot registers after either reset (R156). -/
def Snapshot.reset : Snapshot := { chstat := 0, chsrc := 0, chdst := 0, chrem := 0, chtag := 0, chpend := 0 }

/-- RESULT, CHSEL and the snapshot after pin reset (R155, R156). -/
def WinRegs.reset : WinRegs := { result := .ok, chsel := 0, snapshot := Snapshot.reset }

/-- CLOG after either reset (R129). -/
def Clog.reset : Clog := { records := [], nextSeq := 0 }

/-- FLOG after either reset (R142). -/
def Flog.reset : Flog := { records := [], overflow := false }

/-- The IRU after pin reset (R147, R149). -/
def Iru.reset : Iru := { lost := false, port := false, inten := 0 }

/-- The part right after pin reset (11.6 and the rules each block names). DESIGN CHOICE: the request lines
stand inactive (log 17), and the free value counter at 0 (log 21). -/
def State.reset : State :=
  { pending := [], pbi := Pbi.reset, wtu := Wtu.reset, rgd := Rgd.reset, parb := Parb.reset,
    mseq := Mseq.reset, rpc := Rpc.reset, txe := Txe.reset ⟨false, false, false, false⟩, clog := Clog.reset,
    flog := Flog.reset, iru := Iru.reset, win := WinRegs.reset, freeCount := 0 }

end Sys2Proof.Machine
end

