-- ==== Sys2Proof/Machine/Operands.lean ====
section
/-! DEFINITION. Operand forms: the index a data byte names, bytes of wide registers, the fields of the
packed registers (11.8 Layout Tables), and the records the three staging groups spell. -/
namespace Sys2Proof.Machine

/-! ### Bytes of a register wider than one byte: low byte first (00_scope, Byte order) -/

/-- Byte `k` of `v`, byte 0 being the low byte. -/
def getByte {w : Nat} (v : BitVec w) (k : Nat) : Byte := (v >>> (8 * k)).setWidth 8

/-- `v` with byte `k` replaced; the other bytes keep their values (R154). -/
def setByte {w : Nat} (v : BitVec w) (k : Nat) (b : Byte) : BitVec w :=
  (v &&& ~~~((BitVec.ofNat w 0xFF) <<< (8 * k))) ||| (b.setWidth w <<< (8 * k))

/-! ### Indexes named by a data byte -/

/-- The channel or region a data byte names: 00h to 03h (R24, R95). -/
def index4 (d : Byte) : Option (Fin 4) :=
  if h : d.toNat < 4 then some ⟨d.toNat, h⟩ else none

/-- The window a data byte names: 00h to 07h (R9). -/
def index8 (d : Byte) : Option (Fin 8) :=
  if h : d.toNat < 8 then some ⟨d.toNat, h⟩ else none

/-- The channel index CHSEL stores: the data byte modulo 4 (R156). -/
def chselOf (d : Byte) : Fin 4 := Fin.ofNat 4 d.toNat

/-! ### Windows -/

/-- The conditions every window entry satisfies (R1). -/
def WindowEntry.wf (w : WindowEntry) : Bool :=
  decide (1 ≤ w.pageCount) && decide (w.basePage.toNat + w.pageCount ≤ 16)
    && decide (w.frameBase.toNat + w.pageCount ≤ 4096)

/-- The second check of WLOAD (R9). -/
def WindowStaging.ok (s : WindowStaging) : Bool :=
  decide (1 ≤ s.wcount.toNat) && decide (s.wcount.toNat ≤ 16)
    && decide (s.wbase.toNat + s.wcount.toNat ≤ 16) && decide (s.wframe.toNat + s.wcount.toNat ≤ 4096)

/-- The entry a staged record that passes the check spells (R8, R10). -/
def WindowStaging.entry (s : WindowStaging) : WindowEntry :=
  { enable := s.wflags.getLsbD 0, basePage := s.wbase.setWidth 4, pageCount := s.wcount.toNat,
    frameBase := s.wframe.setWidth 12, readRight := s.wflags.getLsbD 1, writeRight := s.wflags.getLsbD 2 }

/-- The staging record WREAD writes for an entry (R11). -/
def WindowEntry.staging (w : WindowEntry) : WindowStaging :=
  { wbase := w.basePage.setWidth 8, wcount := BitVec.ofNat 8 w.pageCount, wframe := w.frameBase.setWidth 16,
    wflags := BitVec.ofBool w.writeRight ++ BitVec.ofBool w.readRight ++ BitVec.ofBool w.enable }

/-! ### Regions -/

/-- The size in bytes of a row (R15). -/
def RowSize.bytes : RowSize → Nat
  | .b512 => 512
  | .b1024 => 1024
  | .b2048 => 2048
  | .b4096 => 4096

/-- Row size codes (R23): 4 to 7 name no size. -/
def rowSizeOf (c : BitVec 3) : Option RowSize :=
  match c.toNat with
  | 0 => some .b512
  | 1 => some .b1024
  | 2 => some .b2048
  | 3 => some .b4096
  | _ => none

def RowSize.code : RowSize → BitVec 3
  | .b512 => 0
  | .b1024 => 1
  | .b2048 => 2
  | .b4096 => 3

/-- Kind codes (R23): 2 and 3 name no kind. -/
def regionKindOf (c : BitVec 2) : Option RegionKind :=
  match c.toNat with
  | 0 => some .static
  | 1 => some .dynamic
  | _ => none

def RegionKind.code : RegionKind → BitVec 2
  | .static => 0
  | .dynamic => 1

/-- The conditions every region entry satisfies (R15): start frame at most end frame, and a DYNAMIC entry
has a row penalty from 1 to 4. -/
def RegionEntry.wf (e : RegionEntry) : Bool :=
  decide (e.startFrame.toNat ≤ e.endFrame.toNat)
    && (e.kind == .static || (decide (1 ≤ e.rowPenalty.toNat) && decide (e.rowPenalty.toNat ≤ 4)))

/-- The entry the staged record spells, or none where RLOAD refuses it with BAD_RECORD (R24, second
check). RKIND: bit 0 enable, bits 2 and 1 kind, bits 5 to 3 row size; RATTR: bits 2 to 0 wait, bits 5 to 3
row penalty, bit 6 write protect, bit 7 ready enable (11.8). -/
def RegionStaging.entry (s : RegionStaging) : Option RegionEntry :=
  match regionKindOf (s.rkind.extractLsb' 1 2), rowSizeOf (s.rkind.extractLsb' 3 3) with
  | some kind, some size =>
    let e : RegionEntry :=
      { enable := s.rkind.getLsbD 0, startFrame := s.rstart.setWidth 12, endFrame := s.rend.setWidth 12,
        kind := kind, wait := s.rattr.extractLsb' 0 3, writeProtect := s.rattr.getLsbD 6,
        readyEnable := s.rattr.getLsbD 7, rowSize := size, rowPenalty := s.rattr.extractLsb' 3 3 }
    if s.rstart.toNat ≤ 0xFFF ∧ s.rend.toNat ≤ 0xFFF ∧ e.wf = true then some e else none
  | _, _ => none

/-- The staging record RREAD writes for an entry (R30). -/
def RegionEntry.staging (e : RegionEntry) : RegionStaging :=
  { rstart := e.startFrame.setWidth 16, rend := e.endFrame.setWidth 16,
    rkind := e.rowSize.code ++ e.kind.code ++ BitVec.ofBool e.enable,
    rattr := BitVec.ofBool e.readyEnable ++ BitVec.ofBool e.writeProtect ++ e.rowPenalty ++ e.wait }

/-! ### Descriptors -/

/-- Step codes (R94): code 3 names no step. -/
def addrStepOf (c : BitVec 2) : Option AddrStep :=
  match c.toNat with
  | 0 => some .inc
  | 1 => some .dec
  | 2 => some .fix
  | _ => none

/-- The descriptor the staged record spells, or none where ENQ refuses it with BAD_RECORD (R95, second
check). DMODE: bits 1 and 0 source step, bits 3 and 2 destination step, bit 4 PACED, bit 5 notify, bit 6
stop-after, bit 7 end-signal (11.8). -/
def DescStaging.descriptor (s : DescStaging) : Option Descriptor :=
  match addrStepOf (s.dmode.extractLsb' 0 2), addrStepOf (s.dmode.extractLsb' 2 2) with
  | some src, some dst =>
    if s.dcnt = 0 then none
    else some
      { curSrc := s.dsrc, curDst := s.ddst, remaining := s.dcnt, srcStep := src, dstStep := dst,
        pacing := if s.dmode.getLsbD 4 then .paced else .free, notify := s.dmode.getLsbD 5,
        stopAfter := s.dmode.getLsbD 6, endSignal := s.dmode.getLsbD 7, tag := s.dtag }
  | _, _ => none

/-- An address after one unit (R101); addresses wrap through 24 bits. -/
def AddrStep.apply (step : AddrStep) (a : PhysAddr) : PhysAddr :=
  match step with
  | .inc => a + 1
  | .dec => a - 1
  | .fix => a

/-- A head after one completed unit (R101). -/
def Descriptor.advance (d : Descriptor) : Descriptor :=
  { d with curSrc := d.srcStep.apply d.curSrc, curDst := d.dstStep.apply d.curDst,
           remaining := d.remaining - 1 }

/-! ### Channel configuration and codes shown in registers -/

/-- The configuration a CHCFG byte spells, or none where the whole write is ignored (R103, R160): bit 7 is
the sense, bits 4 to 0 the burst limit. -/
def chcfgOf (d : Byte) : Option ChanConfig :=
  let burst := (d.extractLsb' 0 5).toNat
  if 1 ≤ burst ∧ burst ≤ 16 then some { sense := if d.getLsbD 7 then .level else .edge, burst := burst }
  else none

/-- What CHCFG reads for a configuration (11.8). -/
def ChanConfig.byte (c : ChanConfig) : Byte :=
  BitVec.ofBool (c.sense == .level) ++ (0 : BitVec 2) ++ BitVec.ofNat 5 c.burst

/-- The RESULT codes (R155). -/
def ResultCode.byte : ResultCode → Byte
  | .ok => 0
  | .busy => 1
  | .full => 2
  | .empty => 3
  | .badIndex => 4
  | .badState => 5
  | .badRecord => 6
  | .overlap => 7

/-- The CHSTAT state codes (11.8). -/
def ChanState.code : ChanState → BitVec 3
  | .off => 0
  | .ready => 1
  | .busy => 2
  | .held => 3
  | .faulted => 4
  | .posting => 5

/-- The PORTSTAT port state codes (11.8). -/
def PortState.code : PortState → BitVec 2
  | .running => 0
  | .draining => 1
  | .parked => 2
  | .waking => 3

/-- FKIND's kind and direction code (11.8). A PROTECT is always a WRITE and an OVERRUN has direction NONE
(R141). -/
def faultCode (k : FaultKind) (d : FaultDir) : BitVec 3 :=
  match k with
  | .rights => if d = .read then 0 else 1
  | .unmapped => if d = .read then 2 else 3
  | .protect => 4
  | .timeout => if d = .read then 5 else 6
  | .overrun => 7

/-- The channel number FKIND reads: 0 for a processor record (R146). -/
def FaultSource.chan : FaultSource → Fin 4
  | .processor => 0
  | .channel n => n

/-- FKIND for a record (11.8). -/
def FaultRecord.fkind (r : FaultRecord) : Byte :=
  BitVec.ofNat 2 r.source.chan.val ++ BitVec.ofBool r.tag.isSome ++ BitVec.ofBool r.physical.isSome
    ++ BitVec.ofBool r.logical.isSome ++ faultCode r.kind r.dir

/-- LCHST for a record (11.8). -/
def CompletionRecord.lchst (r : CompletionRecord) : Byte :=
  (0 : BitVec 4) ++ BitVec.ofBool r.notify ++ BitVec.ofBool (r.status == .aborted)
    ++ BitVec.ofNat 2 r.channel.val

/-- The direction of an access as a fault record names it. -/
def Direction.fault : Direction → FaultDir
  | .read => .read
  | .write => .write

end Sys2Proof.Machine
end

