-- ==== Sys2Proof/Machine/Lookup.lean ====
section
/-! DEFINITION. The verdicts of the Window Translation Unit (chapter 1) and of the Region Decoder
(chapter 2). They read the tables and change nothing (R3, R19). -/
namespace Sys2Proof.Machine

/-! ### Windows -/

/-- The page of a logical address: A12 to A15 (1.2). -/
def pageOf (a : LogAddr) : Nat := a.toNat / 4096

/-- A window contains a page when it is enabled and base page ≤ page ≤ base page + page count − 1 (R3). -/
def WindowEntry.contains (w : WindowEntry) (page : Nat) : Bool :=
  w.enable && decide (w.basePage.toNat ≤ page) && decide (page < w.basePage.toNat + w.pageCount)

/-- The physical address through a window (R5). -/
def WindowEntry.translate (w : WindowEntry) (a : LogAddr) : PhysAddr :=
  BitVec.ofNat 24 (w.frameBase.toNat * 4096 + (a.toNat - w.basePage.toNat * 4096))

/-- The window that applies: the lowest-numbered that contains the page (R3). -/
def windowFor (t : Oct WindowEntry) (a : LogAddr) : Option WindowEntry :=
  t.toList.find? (fun w => w.contains (pageOf a))

/-- Whether a window has the right a direction needs (R6). -/
def WindowEntry.allows (w : WindowEntry) (dir : Direction) : Bool :=
  match dir with
  | .read => w.readRight
  | .write => w.writeRight

/-- The verdicts of the WTU (R7). -/
inductive WindowVerdict where
  | notClaimed
  | claimed (pa : PhysAddr)
  | rights (pa : PhysAddr)
  deriving DecidableEq, Repr

/-- The verdict for a processor memory cycle (R3 to R7). -/
def windowVerdict (t : Oct WindowEntry) (a : LogAddr) (dir : Direction) : WindowVerdict :=
  match windowFor t a with
  | none => .notClaimed
  | some w => if w.allows dir then .claimed (w.translate a) else .rights (w.translate a)

/-! ### Regions -/

/-- The frame of a physical address: its top twelve bits (R19). -/
def frameOf (a : PhysAddr) : Nat := a.toNat / 4096

/-- An enabled region contains the frames from start to end (R19). -/
def RegionEntry.contains (e : RegionEntry) (frame : Nat) : Bool :=
  e.enable && decide (e.startFrame.toNat ≤ frame) && decide (frame ≤ e.endFrame.toNat)

/-- The channel, region and select numbers, in rising order. -/
def allFour : List (Fin 4) := [0, 1, 2, 3]

/-- The region that contains an address (R19). At most one does, since no two enabled regions share a frame
(R25). -/
def regionOf (t : Quad RegionEntry) (a : PhysAddr) : Option (Fin 4) :=
  allFour.find? (fun n => (t.get n).contains (frameOf a))

/-- Enabled and DYNAMIC. -/
def RegionEntry.isDynamic (e : RegionEntry) : Bool := e.enable && (e.kind == .dynamic)

/-- The selects of every enabled DYNAMIC region (R22). -/
def dynamicSelects (t : Quad RegionEntry) : Quad Bool := t.map RegionEntry.isDynamic

/-- At least one enabled DYNAMIC region exists (R16). -/
def anyDynamic (t : Quad RegionEntry) : Bool := t.any RegionEntry.isDynamic

/-- The row of an address inside a region (R17). -/
def RegionEntry.rowOf (e : RegionEntry) (a : PhysAddr) : Nat :=
  (a.toNat - e.startFrame.toNat * 4096) / e.rowSize.bytes

/-- The address of the first byte of a row (R59). -/
def RegionEntry.rowStart (e : RegionEntry) (row : Nat) : PhysAddr :=
  BitVec.ofNat 24 (e.startFrame.toNat * 4096 + row * e.rowSize.bytes)

/-- The verdicts of the RGD on one end (R20). -/
inductive RegionVerdict where
  | region (n : Fin 4)
  | unmapped
  | protect
  deriving DecidableEq, Repr

/-- The verdict on an address and a direction (R19, R20): UNMAPPED is decided before PROTECT. -/
def regionVerdict (t : Quad RegionEntry) (a : PhysAddr) (dir : Direction) : RegionVerdict :=
  match regionOf t a with
  | none => .unmapped
  | some n => if dir = .write ∧ (t.get n).writeProtect = true then .protect else .region n

/-- The verdict of the two-ended check of a unit (R21): the regions of both ends, or the kind, direction and
address of the failure. -/
inductive UnitVerdict where
  | pass (src dst : Fin 4)
  | fail (kind : FaultKind) (dir : FaultDir) (addr : PhysAddr)
  deriving DecidableEq, Repr

/-- The two-ended check of a unit (R21): the source first, as a read, then the destination as a write. -/
def unitVerdict (t : Quad RegionEntry) (src dst : PhysAddr) : UnitVerdict :=
  match regionVerdict t src .read with
  | .region m =>
    match regionVerdict t dst .write with
    | .region n => .pass m n
    | .unmapped => .fail .unmapped .write dst
    | .protect => .fail .protect .write dst
  | _ => .fail .unmapped .read src

/-- Two frame ranges share a frame when the start of each is at most the end of the other (R25). -/
def RegionEntry.shares (a b : RegionEntry) : Bool :=
  decide (a.startFrame.toNat ≤ b.endFrame.toNat) && decide (b.startFrame.toNat ≤ a.endFrame.toNat)

/-- The OVERLAP check of RLOAD (R25): an enabled record against every other enabled entry. -/
def overlaps (t : Quad RegionEntry) (n : Fin 4) (e : RegionEntry) : Bool :=
  e.enable && allFour.any (fun m => m != n && (t.get m).enable && e.shares (t.get m))

end Sys2Proof.Machine
end

