-- ==== Sys2Proof/Machine/Flags.lean ====
section
/-! DEFINITION. The interrupt causes and IRQ (chapter 10), the claims at the arbiter and their priority
(R47), the conditions of the interval timer (R77), and the output pins as functions of the state. -/
namespace Sys2Proof.Machine

/-! ### Channels -/

/-- Channel n. -/
def State.chan (s : State) (n : Fin 4) : Channel := s.txe.chans.get n

/-- A claim of the channel stands (R106). -/
def Channel.claims (c : Channel) : Bool :=
  match c.port with
  | .claim _ => true
  | _ => false

/-- The channel holds the grant: a unit is in flight (R110). -/
def Channel.granted (c : Channel) : Bool :=
  match c.port with
  | .grant _ _ => true
  | _ => false

/-- The pacing condition of a head (R108): always for FREE, the latch under EDGE, TRQn under LEVEL. -/
def Channel.pacingHolds (c : Channel) (d : Descriptor) : Bool :=
  match d.pacing, c.inUse.sense with
  | .free, _ => true
  | .paced, .edge => c.latch
  | .paced, .level => c.trq

/-- The burst limit a claim for a head carries: FREE heads alone carry one (R47). -/
def Channel.burstCarried (c : Channel) (d : Descriptor) : Option Nat :=
  match d.pacing with
  | .free => some c.inUse.burst
  | .paced => none

/-! ### Claims and the gate (R47, R50) -/

/-- The refresh claim stands while the debt is 1 or more (R79). -/
def State.refreshClaim (s : State) : Bool := decide (1 ≤ s.rpc.debt)

/-- The priority of the refresh claim, read when it is used (R47, R80). -/
def State.refreshUrgent (s : State) : Bool :=
  s.rpc.portState == .draining || decide (s.rpc.rfurg ≤ s.rpc.debt)

/-- The PROCESSOR claim stands while a cycle is in WAITING (R47). -/
def State.processorClaim (s : State) : Bool := s.pbi.phase == .waiting

/-- The order in which the arbitration mode looks at the channels (R51). -/
def Parb.channelOrder (p : Parb) : List (Fin 4) :=
  match p.mode with
  | .fixed => allFour
  | .rotating =>
    match p.pointer with
    | 0 => [1, 2, 3, 0]
    | 1 => [2, 3, 0, 1]
    | 2 => [3, 0, 1, 2]
    | 3 => [0, 1, 2, 3]

/-- The channel the arbitration mode chooses among the standing claims (R51). -/
def State.chosenChannel (s : State) : Option (Fin 4) :=
  s.parb.channelOrder.find? (fun n => (s.chan n).claims)

/-- The claimants (R47). -/
inductive Claimant where
  | refresh
  | processor
  | channel (n : Fin 4)
  deriving DecidableEq, Repr

/-- The decision of PARB with the port free: the grant order of R49 under the gate of R50. During the park
step no claim is granted (R85). -/
def State.decision (s : State) : Option Claimant :=
  match s.rpc.portState with
  | .running =>
    if s.refreshClaim && s.refreshUrgent then some .refresh
    else if s.processorClaim then some .processor
    else
      match s.chosenChannel with
      | some n => some (.channel n)
      | none => if s.refreshClaim then some .refresh else none
  | .draining =>
    if s.rpc.parkStep then none
    else if s.refreshClaim then some .refresh
    else if s.processorClaim then some .processor
    else none
  | .parked => none
  | .waking => none

/-- The yield condition of a FREE burst at a unit boundary (R54). -/
def State.yields (s : State) : Bool :=
  s.processorClaim || (s.refreshClaim && s.refreshUrgent) || (s.rpc.portState != .running)

/-- The park step may begin (R85). -/
def State.parkStepDue (s : State) : Bool :=
  s.rpc.portState == .draining && !s.rpc.parkStep && s.parb.holder == .none && s.rpc.debt == 0
    && !s.processorClaim

/-- The READ or WRITE in progress may still complete: "from 0 to 255 clocks" of extension; with the count at 256 it
ends as TIMEOUT "without a further sample" (R67). -/
def State.mayComplete (s : State) : Bool := decide (s.mseq.extension < 256)

/-! ### The interval timer (R76, R77) -/

/-- The interval a value of RFINT gives: none for 0, 16 for 1 to 15, else the value (R76). -/
def intervalOf (rfint : BitVec 12) : Option Nat :=
  if rfint.toNat = 0 then none else some (max 16 rfint.toNat)

/-- The third condition of R77: RUNNING, or DRAINING with no park step in progress. -/
def Rpc.timerGate (r : Rpc) : Bool :=
  r.portState == .running || (r.portState == .draining && !r.parkStep)

/-- A start of the timer with a full interval, if the three conditions of R77 hold. -/
def timerStart (r : Rpc) (dyn : Bool) : Option Nat :=
  if dyn && r.timerGate then intervalOf r.rfint else none

/-! ### Interrupt causes (R147 to R151) -/

/-- The LOG condition (R139). -/
def State.logCause (s : State) : Bool := s.clog.records.any (fun r => r.notify)

/-- The FAULT condition (R147). -/
def State.faultCause (s : State) : Bool := !s.flog.records.isEmpty

/-- The five causes, bit 0 LOG, 1 FAULT, 2 LOST, 3 PORT, 4 OVFL (R150, 11.8). -/
def State.causes (s : State) : BitVec 5 :=
  BitVec.ofBool s.flog.overflow ++ BitVec.ofBool s.iru.port ++ BitVec.ofBool s.iru.lost
    ++ BitVec.ofBool s.faultCause ++ BitVec.ofBool s.logCause

/-- IRQ (R151). -/
def State.irq (s : State) : Bool := (s.causes &&& s.iru.inten) != 0

/-! ### Output pins -/

/-- WHIT: WAITING, ACCESS and ENDING (R31). -/
def State.whit (s : State) : Bool :=
  match s.pbi.phase with
  | .waiting | .access | .ending => true
  | .idle | .passive => false

/-- PWAIT: WAITING and ACCESS (R31), and a cycle held under R43. -/
def State.pwait (s : State) : Bool :=
  (match s.pbi.phase with
    | .waiting | .access => true
    | .idle | .passive | .ending => false) || s.pbi.held.isSome

/-- D0 to D7: in IDLE the byte of a register read (R153), in ENDING the read data of a READ (R31); none is high
impedance. -/
def State.dataBus (s : State) : Option Byte :=
  match s.pbi.phase with
  | .idle => s.pbi.readOut
  | .passive | .waiting | .access => none
  | .ending => s.pbi.cycle.bind (fun c => if c.dir = .read then c.readData else none)

/-- The access the work of an operation is about. -/
def Work.access : Work → Option Access
  | .processor a _ => some a
  | .unitRead _ src _ => some src
  | .unitWrite _ dst _ => some dst
  | .refresh _ => none
  | .enter _ => none
  | .parkClose => none
  | .wakeUp _ => none
  | .timeoutClose => none

/-- A piece of work with each of its accesses replaced. -/
def Work.mapAccess (f : Access → Access) : Work → Work
  | .processor a b => .processor (f a) b
  | .unitRead n src dst => .unitRead n (f src) (f dst)
  | .unitWrite n dst b => .unitWrite n (f dst) b
  | .refresh sel => .refresh sel
  | .enter sel => .enter sel
  | .parkClose => .parkClose
  | .wakeUp sel => .wakeUp sel
  | .timeoutClose => .timeoutClose

/-- The byte a WRITE of this work presents on MD0 to MD7 (R62, R63). -/
def Work.data : Work → Option Byte
  | .processor _ b => some b
  | .unitWrite _ _ b => some b
  | _ => none

/-- One select alone. -/
def onlySelect (n : Fin 4) : Quad Bool := (⟨false, false, false, false⟩ : Quad Bool).set n true

/-- The region selects an operation asserts (R22, R59): SELF_REFRESH_EXIT for its first 4 clocks only. -/
def Operation.selects (o : Operation) : Quad Bool :=
  let off : Quad Bool := ⟨false, false, false, false⟩
  match o.kind with
  | .read | .write | .rowOpen =>
    match o.work.access with
    | some a => onlySelect a.region
    | none => off
  | .rowClose row _ => onlySelect row.region
  | .refresh =>
    match o.work with
    | .refresh sel => sel
    | _ => off
  | .selfRefreshEnter =>
    match o.work with
    | .enter sel => sel
    | _ => off
  | .selfRefreshExit =>
    match o.work with
    | .wakeUp sel => if 124 < o.left then sel else off
    | _ => off

/-- RSELn (R22): inactive while MSEQ is idle. -/
def State.rsel (s : State) (n : Fin 4) : Bool :=
  match s.mseq.op with
  | some o => o.selects.get n
  | none => false

/-- MRD (R59, R62). -/
def State.mrd (s : State) : Bool :=
  match s.mseq.op with
  | some o => o.kind == .read
  | none => false

/-- MWR (R59, R62). -/
def State.mwr (s : State) : Bool :=
  match s.mseq.op with
  | some o => o.kind == .write
  | none => false

/-- MD0 to MD7 as the part drives them: the data of a WRITE, else high impedance (R58, R62). -/
def State.mdOut (s : State) : Option Byte :=
  match s.mseq.op with
  | some o => if o.kind = .write then o.work.data else none
  | none => none

/-- TAKn (R117). -/
def State.takPin (s : State) (n : Fin 4) : Bool := (s.chan n).tak

/-- TEND, shared by the channels (R117). -/
def State.tendPin (s : State) : Bool := s.txe.chans.any (fun c => c.tend)

end Sys2Proof.Machine
end

