-- ==== Sys2Proof/Machine/Ops.lean ====
section
/-! DEFINITION. The operations the commands share: filing a fault, the unit check and the claim, the start of
an operation on the memory port, the end of a grant, posting, flushing, parking and waking. -/
namespace Sys2Proof.Machine

/-! ### Updates -/

/-- Channel n replaced. -/
def State.setChan (s : State) (n : Fin 4) (c : Channel) : State :=
  { s with txe := { s.txe with chans := s.txe.chans.set n c } }

/-- RESULT written (R155). -/
def State.setResult (s : State) (r : ResultCode) : State :=
  { s with win := { s.win with result := r } }

/-- A fault report handed to FLOG (R143): taken at the tail, or dropped with the overflow flag set. -/
def State.fileFault (s : State) (r : FaultRecord) : State :=
  if s.flog.records.length < 4 then
    { s with flog := { s.flog with records := s.flog.records ++ [r] } }
  else { s with flog := { s.flog with overflow := true } }

/-! ### Channel configuration and port request -/

/-- The configuration in use becomes the stored one when the channel has no claim and no grant; a change of
sense leaves the latch clear (R104). -/
def Channel.adopt (c : Channel) : Channel :=
  if c.port = .none then
    { c with inUse := c.stored, latch := if c.inUse.sense = c.stored.sense then c.latch else false }
  else c

/-- The claim is withdrawn, or the grant leaves the channel: TAKn and TEND are released (R117), and a
deferred configuration takes effect (R104; log 23). -/
def Channel.release (c : Channel) : Channel :=
  Channel.adopt { c with port := .none, tak := false, tend := false }

/-- A channel after a flush has taken effect (R124). -/
def Channel.flushed (c : Channel) : Channel :=
  { c.release with state := .off, queue := [], latch := false, overrun := false, holdPending := false,
                   flushPending := false, offer := none }

/-- The head's tag, when the channel has a head. -/
def Channel.headTag (c : Channel) : Option Byte := c.queue.head?.map (fun d => d.tag)

/-! ### The unit check (R108, R109) -/

/-- A failed unit check, in the same event: the report, FAULTED, and the claim lost if one stood (R109). -/
def State.failUnit (s : State) (n : Fin 4) (kind : FaultKind) (dir : FaultDir) (addr : PhysAddr) : State :=
  let c := s.chan n
  (s.fileFault { source := .channel n, kind := kind, dir := dir, logical := none, physical := some addr,
                 tag := c.headTag }).setChan n { c.release with state := .faulted }

/-- R108: a BUSY channel with no claim and no grant whose head's pacing condition holds checks its next unit
and raises its claim when both ends pass. In every other case nothing happens. -/
def State.checkUnit (s : State) (n : Fin 4) : State :=
  let c := s.chan n
  match c.queue with
  | [] => s
  | d :: _ =>
    if c.state = .busy ∧ c.port = .none ∧ c.pacingHolds d = true then
      match unitVerdict s.rgd.regions d.curSrc d.curDst with
      | .pass _ _ => s.setChan n { c with port := .claim (c.burstCarried d) }
      | .fail kind dir addr => s.failUnit n kind dir addr
    else s

/-! ### Posting (R118, R119, R132) -/

/-- The channel after its record has been posted (R119): the head leaves the queue; HELD for an ABORTED
record, stop-after or hold pending; else BUSY with the next head, or READY. -/
def Channel.posted (c : Channel) (o : Offer) : Channel :=
  let stop := match c.queue with
    | d :: _ => d.stopAfter
    | [] => false
  let rest := c.queue.tail
  if o.status = .aborted ∨ stop = true ∨ c.holdPending = true then
    { c with queue := rest, offer := none, state := .held, holdPending := false }
  else if rest = [] then { c with queue := rest, offer := none, state := .ready }
  else { c with queue := rest, offer := none, state := .busy }

/-- CLOG takes the record channel n offers, with the next sequence number (R131), and the channel goes on
under R119; a new head is checked (R108). Without an offer nothing happens. -/
def State.takeRecord (s : State) (n : Fin 4) : State :=
  let c := s.chan n
  match c.offer with
  | none => s
  | some o =>
    let s1 : State := { s with clog :=
      { records := s.clog.records ++
          [{ seq := s.clog.nextSeq, channel := n, status := o.status, tag := o.tag, remaining := o.remaining,
             notify := o.notify }],
        nextSeq := s.clog.nextSeq + 1 } }
    (s1.setChan n (c.posted o)).checkUnit n

/-- An offer made by channel n: taken in the same event when the log has room (R132), else it waits
(R133). -/
def State.offerRecord (s : State) (n : Fin 4) : State :=
  if s.clog.records.length < 16 then s.takeRecord n else s

/-- The channel enters POSTING with a record for its head of the given status (R118, R123, R130). -/
def Channel.post (c : Channel) (status : Status) : Channel :=
  match c.queue with
  | [] => c
  | d :: _ =>
    { c with state := .posting,
             offer := some { status := status, tag := d.tag, remaining := d.remaining, notify := d.notify } }

/-- Channel n enters POSTING and offers its record (R118, R132). -/
def State.postHead (s : State) (n : Fin 4) (status : Status) : State :=
  (s.setChan n ((s.chan n).post status)).offerRecord n

/-- The lowest-numbered channel waiting in POSTING (R134). -/
def State.waitingChannel (s : State) : Option (Fin 4) :=
  allFour.find? (fun n => (s.chan n).state == .posting)

/-- A free slot goes to the lowest-numbered waiting channel, if any waits (R134). -/
def State.takeWaiting (s : State) : State :=
  match s.waitingChannel with
  | some n => s.offerRecord n
  | none => s

/-! ### Flushing (R99, R124) -/

/-- A flush takes effect on channel n: FLUSHN counts the descriptors removed. -/
def State.flushNow (s : State) (n : Fin 4) : State :=
  let c := s.chan n
  let s1 := s.setChan n c.flushed
  { s1 with txe := { s1.txe with flushn := c.queue.length } }

/-- R125 at the end of a completed unit, the channel holding no grant: a pending flush takes effect; else a
pending hold moves the channel to HELD, or, with remaining 0, to POSTING with hold pending kept. -/
def State.actPending (s : State) (n : Fin 4) : State :=
  let c := s.chan n
  if c.flushPending then s.flushNow n
  else if c.holdPending then
    match c.queue with
    | d :: _ =>
      if d.remaining = 0 then s.postHead n .done
      else s.setChan n { c with state := .held, holdPending := false }
    | [] => s.setChan n { c with state := .held, holdPending := false }
  else s

/-! ### Operations on the memory port (R59 to R61) -/

/-- The duration of an operation in memory clocks (R59); for a READ or WRITE, to its sample point (R67). -/
def opClocks (w : Work) (k : OpKind) : Nat :=
  match k with
  | .read | .write => 2 + (w.access.map (fun a => a.entry.wait.toNat)).getD 0
  | .rowOpen => (w.access.map (fun a => a.entry.rowPenalty.toNat)).getD 0
  | .rowClose _ penalty => penalty
  | .refresh => 6
  | .selfRefreshEnter => 4
  | .selfRefreshExit => 128

/-- What MA0 to MA23 carry during an operation: the address of the access, or of the first byte of the row;
none where they hold the last value (R59). -/
def opAddress (w : Work) (k : OpKind) : Option PhysAddr :=
  match k with
  | .read | .write => w.access.map (fun a => a.addr)
  | .rowOpen => w.access.map (fun a => a.entry.rowStart (a.entry.rowOf a.addr))
  | .rowClose row _ => some row.addr
  | .refresh | .selfRefreshEnter | .selfRefreshExit => none

/-- An operation begins (R58, R59). SELF_REFRESH_ENTER begins with the record cleared (R64, R70). -/
def State.startOp (s : State) (w : Work) (k : OpKind) : State :=
  { s with mseq :=
    { op := some { kind := k, left := opClocks w k, work := w },
      record := if k = .selfRefreshEnter then none else s.mseq.record,
      extension := 0,
      ma := (opAddress w k).or s.mseq.ma } }

/-- The READ or WRITE of an access. -/
def Access.mainOp (a : Access) : OpKind :=
  match a.dir with
  | .read => .read
  | .write => .write

/-- The close penalty of the open row record: the kept one when stale, else the row penalty of the named
region as its entry now stands (R65). -/
def closePenalty (t : Quad RegionEntry) (r : OpenRow) : Nat :=
  match r.stale with
  | some p => p
  | none => (t.get r.region).rowPenalty.toNat

/-- The next operation an access needs (R60): a stale close first, whatever the access (R66). -/
def nextForAccess (t : Quad RegionEntry) (rec : Option OpenRow) (a : Access) : OpKind :=
  match rec with
  | none =>
    match a.entry.kind with
    | .static => a.mainOp
    | .dynamic => .rowOpen
  | some r =>
    if r.stale.isSome then .rowClose r (closePenalty t r)
    else
      match a.entry.kind with
      | .static => a.mainOp
      | .dynamic =>
        if r.region = a.region ∧ r.row = a.entry.rowOf a.addr then a.mainOp
        else .rowClose r (closePenalty t r)

/-- A stale close in front of another operation (R66). -/
def afterStale (t : Quad RegionEntry) (rec : Option OpenRow) (k : OpKind) : OpKind :=
  match rec with
  | some r => if r.stale.isSome then .rowClose r (closePenalty t r) else k
  | none => k

/-- The next operation of a piece of work with the record as it stands: R60 for accesses, R69 for a REFRESH
grant, R70 and R66 for the park step, R71 for the exit; none when the work needs no further operation. -/
def nextKind (t : Quad RegionEntry) (rec : Option OpenRow) (w : Work) : Option OpKind :=
  match w with
  | .processor a _ => some (nextForAccess t rec a)
  | .unitRead _ src _ => some (nextForAccess t rec src)
  | .unitWrite _ dst _ => some (nextForAccess t rec dst)
  | .refresh _ =>
    match rec with
    | some r => some (.rowClose r (closePenalty t r))
    | none => some .refresh
  | .enter _ => some (afterStale t rec .selfRefreshEnter)
  | .parkClose =>
    match rec with
    | some r => if r.stale.isSome then some (.rowClose r (closePenalty t r)) else none
    | none => none
  | .wakeUp _ => some .selfRefreshExit
  | .timeoutClose => none

/-- The next operation of the work begins, if it needs one. -/
def State.beginWork (s : State) (w : Work) : State :=
  match nextKind s.rgd.regions s.mseq.record w with
  | some k => s.startOp w k
  | none => s

/-- No operation in progress: the selects, strobes and count at rest (R58, R67). -/
def State.idleMseq (s : State) : State :=
  { s with mseq := { s.mseq with op := none, extension := 0 } }

/-- The grant ends: the holder returns to NONE and MSEQ is idle (R52). -/
def State.endGrant (s : State) : State :=
  { s.idleMseq with parb := { s.parb with holder := .none } }

/-- The channel that holds the grant leaves BUSY: the operation in progress is left to finish under RESIDUAL;
with none in progress the holder returns to NONE (R55). -/
def State.giveUpGrant (s : State) : State :=
  match s.mseq.op with
  | some _ => { s with parb := { s.parb with holder := .residual } }
  | none => s.endGrant

/-- An access to the region of an address, captured now (R63). -/
def captureAccess (t : Quad RegionEntry) (dir : Direction) (addr : PhysAddr) (n : Fin 4) : Access :=
  { dir := dir, addr := addr, region := n, entry := t.get n, staleMark := false }

/-- A unit of the head `d` of channel n begins: both ends are captured (R63) and the READ half starts. -/
def State.beginUnit (s : State) (n : Fin 4) (d : Descriptor) (src dst : Fin 4) : State :=
  s.beginWork (.unitRead n (captureAccess s.rgd.regions .read d.curSrc src)
    (captureAccess s.rgd.regions .write d.curDst dst))

/-! ### Waking and parking (R85, R88) -/

/-- The port enters WAKING: the cause is recorded, SREF released, SELF_REFRESH_EXIT handed to MSEQ
(R88, R71). -/
def State.startWake (s : State) (cause : WakeCause) : State :=
  let s1 : State := { s with rpc := { s.rpc with portState := .waking, wakeCause := some cause, sref := false } }
  s1.startOp (.wakeUp (dynamicSelects s1.rgd.regions)) .selfRefreshExit

/-- The end of the park step: PARKED, SREF asserted, the PORT event (R85). A PROCESSOR claim that stands then
begins the automatic wake in the same event (R38, R39; log 31). -/
def State.enterParked (s : State) : State :=
  let s1 : State := { s.idleMseq with
    rpc := { s.rpc with portState := .parked, parkStep := false, sref := true },
    iru := { s.iru with port := true } }
  if s1.processorClaim then s1.startWake .processor else s1

/-- The park step begins (R85): the timer stops; then the stale close, SELF_REFRESH_ENTER, or neither. Whether
a SELF_REFRESH_ENTER is due, and its selects, are settled now (log 13). -/
def State.beginParkStep (s : State) : State :=
  let s1 : State := { s with rpc := { s.rpc with parkStep := true, timer := none } }
  if anyDynamic s1.rgd.regions then s1.beginWork (.enter (dynamicSelects s1.rgd.regions))
  else
    match nextKind s1.rgd.regions s1.mseq.record .parkClose with
    | some k => s1.startOp .parkClose k
    | none => s1.enterParked

/-! ### Processor cycles (R35, R42, R43) -/

/-- The processor is released: ENDING while the cycle's MEMC is active; IDLE directly, with the record emptied,
when it has gone inactive, which a memory cycle held behind this one also shows (R35, R40, R43). -/
def State.releaseProcessor (s : State) (c : CycleRecord) : State :=
  if s.pbi.memc = true ∧ s.pbi.held = none then { s with pbi := { s.pbi with phase := .ending, cycle := some c } }
  else { s with pbi := { s.pbi with phase := .idle, cycle := none } }

/-- A faulted processor cycle: the report of R37, FFh as read data of a READ, and the release (R35, R41). -/
def State.faultCycle (s : State) (c : CycleRecord) (kind : FaultKind) : State :=
  (s.fileFault { source := .processor, kind := kind, dir := c.dir.fault, logical := some c.logical,
                 physical := c.physical, tag := none }).releaseProcessor
    { c with readData := if c.dir = .read then some 0xFF else c.readData }

/-- MEMC becomes inactive (R42, R33): PASSIVE and ENDING go to IDLE; in WAITING and ACCESS the cycle is
finished as it was begun (R43). -/
def State.endCycle (s : State) : State :=
  match s.pbi.phase with
  | .passive | .ending => { s with pbi := { s.pbi with phase := .idle, cycle := none, memc := false } }
  | .idle | .waiting | .access => { s with pbi := { s.pbi with memc := false } }

/-- The register read is over: D0 to D7 go into high impedance (R153; log 19). -/
def State.released (s : State) : State := { s with pbi := { s.pbi with readOut := none } }

/-- What every new cycle of the processor brings with it: MEMC had become inactive before it (R153 asks it of
a register window cycle, "becomes active" of a memory cycle), and the register read before it is over
(log 8, log 19). -/
def State.newCycle (s : State) : State :=
  (if s.pbi.memc then s.endCycle else s).released

/-- The phases in which a cycle that begins is held (R43). -/
def Phase.busy : Phase → Bool
  | .waiting => true
  | .access => true
  | .idle => false
  | .passive => false
  | .ending => false

/-- A register window cycle begins (R153): it is served at once by `serve`, or held while the PBI is in WAITING
or ACCESS (R43). While a cycle is held the processor begins no other (log 9). -/
def State.windowCycle (s : State) (serve : State → State) : State :=
  if s.pbi.held.isSome then s
  else
    let s1 := s.newCycle
    if s1.pbi.phase.busy then { s1 with pbi := { s1.pbi with held := some .window } }
    else serve s1

end Sys2Proof.Machine
end

