-- ==== Sys2Proof/Machine/Arbiter.lean ====
section
/-! DEFINITION. Chapter 4: the grant decision and the arbitration mode. -/
namespace Sys2Proof.Machine

/-- The grant of the refresh claim (R52, R69): the DYNAMIC regions enabled now are captured. -/
def State.grantRefresh (s : State) : State :=
  ({ s with parb := { s.parb with holder := .refresh } } : State).beginWork
    (.refresh (dynamicSelects s.rgd.regions))

/-- The grant of the PROCESSOR claim (R40): ACCESS, timed from the region entry in force now. -/
def State.grantProcessor (s : State) : State :=
  match s.pbi.cycle with
  | none => s
  | some c =>
    match c.physical, c.region with
    | some pa, some r =>
      ({ s with parb := { s.parb with holder := .processor }, pbi := { s.pbi with phase := .access } } :
          State).beginWork (.processor (captureAccess s.rgd.regions c.dir pa r) (c.writeData.getD 0))
    | _, _ => s

/-- The channel at the grant of its claim (R110, R114, R117): a PACED head under EDGE sense consumes the latch,
and a PACED head asserts TAKn. -/
def Channel.take (c : Channel) (d : Descriptor) (limit : Option Nat) : Channel :=
  { c with port := .grant limit 0,
           latch := if d.pacing = .paced ∧ c.inUse.sense = .edge then false else c.latch,
           tak := d.pacing == .paced }

/-- The grant of the claim of channel n (R51, R110): the pointer follows, and the unit begins. A standing claim's
unit passes its check (R27); were it to fail, R109 would apply (log 26). -/
def State.grantChannel (s : State) (n : Fin 4) : State :=
  let c := s.chan n
  match c.port, c.queue with
  | .claim limit, d :: _ =>
    match unitVerdict s.rgd.regions d.curSrc d.curDst with
    | .pass src dst =>
      (({ s with parb := { s.parb with holder := .channel n, pointer := n } } : State).setChan n
        (c.take d limit)).beginUnit n d src dst
    | .fail kind dir addr => s.failUnit n kind dir addr
  | _, _ => s

/-- A decision of PARB (R48): made only while the port is free. -/
def State.grantDecision (s : State) : State :=
  if s.parb.holder = .none then
    match s.decision with
    | some .refresh => s.grantRefresh
    | some .processor => s.grantProcessor
    | some (.channel n) => s.grantChannel n
    | none => s
  else s

/-- PORT_GRANT (R48). -/
def execPortGrant (s : State) : Host.Outcome State Fault Refusal :=
  .next s.grantDecision

/-- ARBMODE written (R57, R160): bit 0 is stored. -/
def State.writeArbmode (s : State) (data : Byte) : State :=
  { s with parb := { s.parb with mode := if data.getLsbD 0 then .rotating else .fixed } }

/-- ARBMODE_WRITE (R57). -/
def execArbmodeWrite (data : Byte) (s : State) : Host.Outcome State Fault Refusal :=
  .next (s.windowCycle (fun t => t.writeArbmode data))

end Sys2Proof.Machine
end

