-- ==== Sys2Proof/Machine/Channels.lean ====
section
/-! DEFINITION. Chapters 7 and 8: the channel strobes, the request lines, the end of a unit, the pending
flags and the channel configuration. -/
namespace Sys2Proof.Machine

/-! ### The strobes -/

/-- A strobe whose data byte names a channel: any other byte is refused with BAD_INDEX first (8.5). -/
def State.channelStrobe (s : State) (data : Byte) (f : State → Fin 4 → State) : State :=
  match index4 data with
  | none => s.setResult .badIndex
  | some n => f s n

/-- ENQ on a named channel (R95, R96): the record, then room; the descriptor joins the tail, and a READY
channel goes BUSY and begins on it. -/
def State.enqOn (s : State) (n : Fin 4) : State :=
  match s.txe.staging.descriptor with
  | none => s.setResult .badRecord
  | some d =>
    let c := s.chan n
    if 8 ≤ c.queue.length then s.setResult .full
    else if c.state = .ready then
      ((s.setResult .ok).setChan n { c with queue := c.queue ++ [d], state := .busy }).checkUnit n
    else (s.setResult .ok).setChan n { c with queue := c.queue ++ [d] }

/-- START on a named channel (R120). -/
def State.startOn (s : State) (n : Fin 4) : State :=
  let c := s.chan n
  if c.state = .off then
    if c.queue = [] then (s.setResult .ok).setChan n { c with state := .ready }
    else ((s.setResult .ok).setChan n { c with state := .busy }).checkUnit n
  else s.setResult .badState

/-- HOLD on a named channel (R121). -/
def State.holdOn (s : State) (n : Fin 4) : State :=
  let c := s.chan n
  match c.state with
  | .ready => (s.setResult .ok).setChan n { c with state := .held }
  | .busy =>
    if c.granted then (s.setResult .ok).setChan n { c with holdPending := true }
    else (s.setResult .ok).setChan n { c.release with state := .held }
  | .posting => (s.setResult .ok).setChan n { c with holdPending := true }
  | .off => s.setResult .badState
  | .held => s.setResult .badState
  | .faulted => s.setResult .badState

/-- The latch RESUME from FAULTED leaves: set for a PACED head under EDGE sense (R122). -/
def Channel.retryLatch (c : Channel) : Bool :=
  match c.queue with
  | d :: _ => if d.pacing = .paced ∧ c.inUse.sense = .edge then true else c.latch
  | [] => c.latch

/-- RESUME on a named channel (R122). -/
def State.resumeOn (s : State) (n : Fin 4) : State :=
  let c := s.chan n
  match c.state with
  | .held =>
    if c.queue = [] then (s.setResult .ok).setChan n { c with state := .ready, overrun := false }
    else ((s.setResult .ok).setChan n { c with state := .busy, overrun := false }).checkUnit n
  | .faulted =>
    ((s.setResult .ok).setChan n
      { c with state := .busy, overrun := false, latch := c.retryLatch }).checkUnit n
  | .off => s.setResult .badState
  | .ready => s.setResult .badState
  | .busy => s.setResult .badState
  | .posting => s.setResult .badState

/-- SKIP on a named channel (R123). -/
def State.skipOn (s : State) (n : Fin 4) : State :=
  let c := s.chan n
  match c.state with
  | .faulted => (s.setResult .ok).postHead n .aborted
  | .held => if c.queue = [] then s.setResult .empty else (s.setResult .ok).postHead n .aborted
  | .off => s.setResult .badState
  | .ready => s.setResult .badState
  | .busy => s.setResult .badState
  | .posting => s.setResult .badState

/-- FLUSH on a named channel (R124): pending while the channel holds the grant, else at once. -/
def State.flushOn (s : State) (n : Fin 4) : State :=
  let c := s.chan n
  if c.granted then (s.setResult .ok).setChan n { c with flushPending := true }
  else (s.setResult .ok).flushNow n

/-- The strobes as register window writes of a data byte. -/
def State.enq (s : State) (data : Byte) : State := s.channelStrobe data State.enqOn
def State.start (s : State) (data : Byte) : State := s.channelStrobe data State.startOn
def State.hold (s : State) (data : Byte) : State := s.channelStrobe data State.holdOn
def State.resume (s : State) (data : Byte) : State := s.channelStrobe data State.resumeOn
def State.skip (s : State) (data : Byte) : State := s.channelStrobe data State.skipOn
def State.flush (s : State) (data : Byte) : State := s.channelStrobe data State.flushOn

/-- ENQ (R95 to R97). -/
def execEnq (data : Byte) (s : State) : Host.Outcome State Fault Refusal :=
  .next (s.windowCycle (fun t => t.enq data))

/-- START (R120). -/
def execStart (data : Byte) (s : State) : Host.Outcome State Fault Refusal :=
  .next (s.windowCycle (fun t => t.start data))

/-- HOLD (R121). -/
def execHold (data : Byte) (s : State) : Host.Outcome State Fault Refusal :=
  .next (s.windowCycle (fun t => t.hold data))

/-- RESUME (R122). -/
def execResume (data : Byte) (s : State) : Host.Outcome State Fault Refusal :=
  .next (s.windowCycle (fun t => t.resume data))

/-- SKIP (R123). -/
def execSkip (data : Byte) (s : State) : Host.Outcome State Fault Refusal :=
  .next (s.windowCycle (fun t => t.skip data))

/-- FLUSH (R124). -/
def execFlush (data : Byte) (s : State) : Host.Outcome State Fault Refusal :=
  .next (s.windowCycle (fun t => t.flush data))

/-! ### Configuration (R103, R104) -/

/-- CHCFG written for the channel CHSEL names (R103): a valid byte is stored; with no claim and no grant it
takes effect at once (R104), which calls for a check (R108); behind a claim it waits, even one raised by an edge of the
same moment (log 36). An invalid byte changes nothing. -/
def State.writeChcfg (s : State) (data : Byte) : State :=
  match chcfgOf data with
  | none => s
  | some cfg =>
    let n := s.win.chsel
    (s.setChan n (Channel.adopt { s.chan n with stored := cfg })).checkUnit n

/-- CHCFG_WRITE (R103). -/
def execChcfgWrite (data : Byte) (s : State) : Host.Outcome State Fault Refusal :=
  .next (s.windowCycle (fun t => t.writeChcfg data))

/-- CONFIGURATION_IN_USE (R104): a deferred change takes effect when the channel has no claim and no grant, and
calls for a check (R108). The events that end a claim or a grant have done so already (log 23). -/
def execConfigurationInUse (n : Fin 4) (s : State) : Host.Outcome State Fault Refusal :=
  if (s.chan n).port = .none ∧ (s.chan n).inUse ≠ (s.chan n).stored then
    .next ((s.setChan n (s.chan n).adopt).checkUnit n)
  else .next s

/-! ### Request lines (R114 to R116) -/

/-- The states in which an asserting edge is latched under EDGE sense (R107, R114). -/
def ChanState.latches : ChanState → Bool
  | .ready => true
  | .busy => true
  | .held => true
  | .posting => true
  | .off => false
  | .faulted => false

/-- An overrun on channel n (R115): the flag and the report; a BUSY channel with flush pending clear goes
FAULTED, its claim withdrawn or its grant passed to RESIDUAL (R112). The latch stays set: with the claim withdrawn
no grant follows to consume it, whatever the last sentence of R114 says (log 34). -/
def State.overrunOn (s : State) (n : Fin 4) : State :=
  let c := { s.chan n with overrun := true }
  let s1 := s.fileFault { source := .channel n, kind := .overrun, dir := .none, logical := none,
                          physical := none, tag := c.headTag }
  if c.state = .busy ∧ c.flushPending = false then
    (if c.granted then s1.giveUpGrant else s1).setChan n
      { c.release with state := .faulted, holdPending := false }
  else s1.setChan n c

/-- An asserting edge on TRQn (R114 to R116). Under EDGE sense with a PACED head in BUSY it raises the claim at once
(R108), so that a CHCFG write to LEVEL at the same moment, taken after it, is deferred and the latch stays set, whatever
"either way the latch is clear afterwards" of R104 says (log 36). -/
def State.trqEdge (s : State) (n : Fin 4) : State :=
  let c := { s.chan n with trq := true }
  let s1 := s.setChan n c
  match c.inUse.sense with
  | .edge =>
    if c.state.latches then
      if c.latch then s1.overrunOn n else (s1.setChan n { c with latch := true }).checkUnit n
    else s1
  | .level => s1.checkUnit n

/-- TRQ_ASSERT (R114): the command is an asserting edge, whatever level the line held (log 17). -/
def execTrqAssert (n : Fin 4) (s : State) : Host.Outcome State Fault Refusal :=
  .next (s.trqEdge n)

/-- The head of the channel is PACED. -/
def Channel.pacedHead (c : Channel) : Bool :=
  match c.queue with
  | d :: _ => d.pacing == .paced
  | [] => false

/-- TRQ_DEASSERT (R116): under LEVEL sense a standing claim of a PACED head is withdrawn. -/
def execTrqDeassert (n : Fin 4) (s : State) : Host.Outcome State Fault Refusal :=
  let c := { s.chan n with trq := false }
  if c.inUse.sense = .level ∧ c.claims = true ∧ c.pacedHead = true then
    .next ((s.setChan n c.release).checkUnit n)
  else .next (s.setChan n c)

/-! ### The end of a unit (R53, R54, R101, R110, R125) -/

/-- Fewer units than the burst limit have been performed, the unit just ended counted (R53, condition 1). A
PACED head's grant carries no limit and covers one unit (R52). -/
def PortRequest.burstOpen : PortRequest → Bool
  | .grant (some limit) moved => decide (moved + 1 < limit)
  | .grant .none _ => false
  | .claim _ => false
  | .none => false

/-- The grant with one more unit moved. -/
def PortRequest.unitMoved : PortRequest → PortRequest
  | .grant limit moved => .grant limit (moved + 1)
  | .claim limit => .claim limit
  | .none => .none

/-- The completion of the WRITE of a unit of channel n (R110): the head advances (R101); pending flags act
(R125); remaining 0 enters POSTING (R118); a PACED head's grant ends; a FREE burst continues or ends (R53,
R54). When the grant ends with the channel BUSY, R108 checks the next unit. -/
def State.finishUnit (s : State) (n : Fin 4) : State :=
  let c := s.chan n
  match c.queue with
  | [] => s.endGrant.setChan n c.release
  | d :: rest =>
    let c1 := { c with queue := d.advance :: rest }
    let ended := s.endGrant.setChan n c1.release
    if c.flushPending = true ∨ c.holdPending = true then ended.actPending n
    else if d.advance.remaining = 0 then ended.postHead n .done
    else if d.pacing = .free ∧ c.port.burstOpen = true ∧ s.yields = false then
      match unitVerdict s.rgd.regions d.advance.curSrc d.advance.curDst with
      | .pass src dst =>
        ((s.idleMseq).setChan n { c1 with port := c.port.unitMoved, tend := false }).beginUnit n d.advance src dst
      | .fail _ _ _ => ended.checkUnit n
    else ended.checkUnit n

/-- UNIT_COMPLETE (R110): due when the WRITE of a unit is in progress under its channel's grant and may complete
(R67). -/
def execUnitComplete (s : State) : Host.Outcome State Fault Refusal :=
  match s.mseq.op with
  | some ⟨.write, _, .unitWrite n _ _⟩ =>
    if s.parb.holder = .channel n ∧ s.mayComplete = true then .next (s.finishUnit n) else .next s
  | _ => .next s

/-- PENDING_FLAGS_ACTED (R125): due for a BUSY channel whose unit has ended with a pending flag set. The
completion or TIMEOUT that ends a unit acts on the flags in the same event (log 24). -/
def execPendingFlagsActed (n : Fin 4) (s : State) : Host.Outcome State Fault Refusal :=
  if (s.chan n).state = .busy ∧ (s.chan n).port = .none then .next (s.actPending n) else .next s

end Sys2Proof.Machine
end

