-- ==== Sys2Proof/Machine/Logs.lean ====
section
/-! DEFINITION. Chapters 9 and 10: LOGPOP, FLTPOP, COMPLETION_RECORD_TAKEN and the interrupt registers. -/
namespace Sys2Proof.Machine

/-- LOGPOP (R137): the oldest record is removed, and the freed slot handed out (R134). -/
def State.logpop (s : State) : State :=
  match s.clog.records with
  | [] => s.setResult .empty
  | _ :: rest =>
    (({ s with clog := { s.clog with records := rest } } : State).setResult .ok).takeWaiting

/-- LOGPOP, a register window write; its data byte is disregarded. -/
def execLogpop (_data : Byte) (s : State) : Host.Outcome State Fault Refusal :=
  .next (s.windowCycle State.logpop)

/-- COMPLETION_RECORD_TAKEN (R134): due while a channel waits in POSTING and the log has room. An offer that
finds room and a LOGPOP have taken the record in their own event (R132, R134; log 24). -/
def execCompletionRecordTaken (s : State) : Host.Outcome State Fault Refusal :=
  .next s.takeWaiting

/-- FLTPOP (R144): the oldest fault record is removed. -/
def State.fltpop (s : State) : State :=
  match s.flog.records with
  | [] => s.setResult .empty
  | _ :: rest => ({ s with flog := { s.flog with records := rest } } : State).setResult .ok

/-- FLTPOP, a register window write; its data byte is disregarded. -/
def execFltpop (_data : Byte) (s : State) : Host.Outcome State Fault Refusal :=
  .next (s.windowCycle State.fltpop)

/-- INTCAUSE written (R150): each sticky cause whose bit is 1 is cleared. -/
def State.writeIntcause (s : State) (data : Byte) : State :=
  { s with
    iru := { s.iru with lost := s.iru.lost && !data.getLsbD 2, port := s.iru.port && !data.getLsbD 3 },
    flog := { s.flog with overflow := s.flog.overflow && !data.getLsbD 4 } }

/-- INTCAUSE_WRITE (R150). -/
def execIntcauseWrite (data : Byte) (s : State) : Host.Outcome State Fault Refusal :=
  .next (s.windowCycle (fun t => t.writeIntcause data))

/-- INTEN written (R149): the five enable bits. -/
def State.writeInten (s : State) (data : Byte) : State :=
  { s with iru := { s.iru with inten := data.setWidth 5 } }

/-- INTEN_WRITE (R149). -/
def execIntenWrite (data : Byte) (s : State) : Host.Outcome State Fault Refusal :=
  .next (s.windowCycle (fun t => t.writeInten data))

end Sys2Proof.Machine
end

