-- ==== Sys2Proof/Machine/Refresh.lean ====
section
/-! DEFINITION. Chapter 6: the interval timer, the debt, PARK, WAKE, the park step and the wake. -/
namespace Sys2Proof.Machine

/-- RFINT written at one of its two offsets (R76): the low offset stores eight bits, the high offset its low
four; the timer restarts, or stops, with the new value (R77). -/
def State.writeRfint (s : State) (high : Bool) (data : Byte) : State :=
  let value : BitVec 12 :=
    if high then data.extractLsb' 0 4 ++ s.rpc.rfint.extractLsb' 0 8
    else s.rpc.rfint.extractLsb' 8 4 ++ data
  let r := { s.rpc with rfint := value }
  { s with rpc := { r with timer := timerStart r (anyDynamic s.rgd.regions) } }

/-- RFINT_WRITE (R76). -/
def execRfintWrite (high : Bool) (data : Byte) (s : State) : Host.Outcome State Fault Refusal :=
  .next (s.windowCycle (fun t => t.writeRfint high data))

/-- RFURG written (R80): 1 to 8 are stored, any other value is ignored. -/
def State.writeRfurg (s : State) (data : Byte) : State :=
  if 1 ≤ data.toNat ∧ data.toNat ≤ 8 then { s with rpc := { s.rpc with rfurg := data.toNat } } else s

/-- RFURG_WRITE (R80). -/
def execRfurgWrite (data : Byte) (s : State) : Host.Outcome State Fault Refusal :=
  .next (s.windowCycle (fun t => t.writeRfurg data))

/-- An expiry (R78): the timer reloads; the debt rises, or at 8 the LOST flag is set. -/
def State.expire (s : State) : State :=
  let s1 : State := { s with rpc := { s.rpc with timer := intervalOf s.rpc.rfint } }
  if s.rpc.debt < 8 then { s1 with rpc := { s1.rpc with debt := s.rpc.debt + 1 } }
  else { s1 with iru := { s1.iru with lost := true } }

/-- INTERVAL_TIMER_EXPIRY (R78): due while the timer runs; "the timer is stopped, so there is no expiry"
(R81). -/
def execIntervalTimerExpiry (s : State) : Host.Outcome State Fault Refusal :=
  if s.rpc.timer.isSome then .next s.expire else .next s

/-- A REFRESH completes (R69, R79): the debt falls by one, not below 0, and the grant ends. -/
def State.finishRefresh (s : State) : State :=
  { s.endGrant with rpc := { s.rpc with debt := s.rpc.debt - 1 } }

/-- REFRESH (R69): due when the REFRESH of the REFRESH grant is in progress. -/
def execRefresh (s : State) : Host.Outcome State Fault Refusal :=
  match s.mseq.op with
  | some ⟨.refresh, _, _⟩ => if s.parb.holder = .refresh then .next s.finishRefresh else .next s
  | _ => .next s

/-- PARK (R83): decided by the port state. A taken PARK that finds the port free and the debt 0 begins the park
step straight away (log 14). -/
def State.park (s : State) : State :=
  match s.rpc.portState with
  | .running =>
    let s1 := ({ s with rpc := { s.rpc with portState := .draining } } : State).setResult .ok
    if s1.parkStepDue then s1.beginParkStep else s1
  | .draining => s.setResult .badState
  | .parked => s.setResult .badState
  | .waking => s.setResult .busy

/-- PARK, a register window write; its data byte is disregarded. -/
def execPark (_data : Byte) (s : State) : Host.Outcome State Fault Refusal :=
  .next (s.windowCycle State.park)

/-- WAKE (R87): decided by the port state. -/
def State.wake (s : State) : State :=
  match s.rpc.portState with
  | .parked => (s.setResult .ok).startWake .strobe
  | .draining => s.setResult .busy
  | .running => s.setResult .badState
  | .waking => s.setResult .badState

/-- WAKE, a register window write; its data byte is disregarded. -/
def execWake (_data : Byte) (s : State) : Host.Outcome State Fault Refusal :=
  .next (s.windowCycle State.wake)

/-- PARK_STEP (R85): due in DRAINING with the holder NONE, the debt 0 and no PROCESSOR claim. -/
def execParkStep (s : State) : Host.Outcome State Fault Refusal :=
  if s.parkStepDue then .next s.beginParkStep else .next s

/-- SELF_REFRESH_ENTER (R70, R85): due when a SELF_REFRESH_ENTER is in progress in a park step. -/
def execSelfRefreshEnter (s : State) : Host.Outcome State Fault Refusal :=
  match s.mseq.op with
  | some ⟨.selfRefreshEnter, _, _⟩ => if s.rpc.parkStep then .next s.enterParked else .next s
  | _ => .next s

/-- A wake completes (R88): RUNNING, the timer starts, PORT is set when the cause is STROBE, the cause returns to
none. -/
def State.finishWake (s : State) : State :=
  let r := { s.rpc with portState := .running, wakeCause := none }
  { s.idleMseq with
    rpc := { r with timer := timerStart r (anyDynamic s.rgd.regions) },
    iru := { s.iru with port := s.iru.port || (s.rpc.wakeCause == some .strobe) } }

/-- SELF_REFRESH_EXIT (R88): due when a SELF_REFRESH_EXIT is in progress in WAKING. -/
def execSelfRefreshExit (s : State) : Host.Outcome State Fault Refusal :=
  match s.mseq.op with
  | some ⟨.selfRefreshExit, _, _⟩ => if s.rpc.portState = .waking then .next s.finishWake else .next s
  | _ => .next s

end Sys2Proof.Machine
end

