-- ==== Sys2Proof/Config.lean ====
section
/-! DEFINITION. The free values of the model: constants with no body, applied to the counter
`State.freeCount`. Nothing can be proved of a value of one of them, so a claim that holds, holds
whatever they are. -/
namespace Sys2Proof

/-- DESIGN CHOICE (log 6). R143: reports handed over at the same moment "may then be taken in either
order". This number selects the order in which one RLOAD files the reports of several waiting units. -/
opaque Config.reportOrder : Nat → Nat

/-- DESIGN CHOICE (log 5). The level of XRDY at a sample point that no command tells (R67). -/
opaque Config.xrdySample : Nat → Bool

/-- DESIGN CHOICE (log 5). The byte a bank drives on MD0 to MD7 at the end of a READ that no command
tells (R62). -/
opaque Config.bankByte : Nat → Byte

/-- DESIGN CHOICE (log 7). R81: an expiry and the end of an operation in the same clock, "either may be
taken first". -/
opaque Config.expiryFirst : Nat → Bool

end Sys2Proof
end

