-- ==== Sys2Proof/Machine/Regions.lean ====
section
/-! DEFINITION. Chapter 2: the RLOAD and RREAD strobes, with the effects of a load on work already in
progress (R27 to R29). -/
namespace Sys2Proof.Machine

/-! ### Stale marks (R28, R66) -/

/-- An access to region r carries the mark of a load taken since its grant. -/
def Access.mark (r : Fin 4) (a : Access) : Access :=
  if a.region = r then { a with staleMark := true } else a

/-- Every access of the work in progress to region r is marked (R66). -/
def Work.mark (r : Fin 4) (w : Work) : Work := w.mapAccess (Access.mark r)

/-- The open row record marked stale with the close penalty region r had (R28, R66); a record already stale
keeps its mark and penalty. -/
def OpenRow.mark (r : Fin 4) (penalty : Nat) (rec : OpenRow) : OpenRow :=
  if rec.region = r ∧ rec.stale = none then { rec with stale := some penalty } else rec

/-- R28 and R66: the record and the accesses granted before the load are marked when a region that was
DYNAMIC and enabled changes in any field. -/
def State.markStale (s : State) (r : Fin 4) (old new : RegionEntry) : State :=
  if old.isDynamic = true ∧ new ≠ old then
    { s with mseq := { s.mseq with
        record := s.mseq.record.map (OpenRow.mark r old.rowPenalty.toNat),
        op := s.mseq.op.map (fun o => { o with work := o.work.mark r }) } }
  else s

/-! ### Refresh work (R29) -/

/-- R29: with the last enabled DYNAMIC region gone the debt is 0 and the timer stops; with the first one
arrived the timer starts, if its other conditions hold. -/
def State.reloadRefresh (s : State) (before after : Bool) : State :=
  if before = true ∧ after = false then
    { s with rpc := { s.rpc with debt := 0, timer := none } }
  else if before = false ∧ after = true then
    { s with rpc := { s.rpc with timer := timerStart s.rpc true } }
  else s

/-! ### Waiting units (R27) -/

/-- The unit waiting at the arbiter for channel n now fails its check. -/
def State.claimFails (s : State) (n : Fin 4) : Bool :=
  let c := s.chan n
  c.claims &&
    match c.queue with
    | [] => false
    | d :: _ =>
      match unitVerdict s.rgd.regions d.curSrc d.curDst with
      | .pass _ _ => false
      | .fail _ _ _ => true

/-- The waiting unit of channel n takes the failed verdict of the new table (R27, R109). -/
def State.recheckClaim (s : State) (n : Fin 4) : State :=
  if s.claimFails n then
    match (s.chan n).queue with
    | [] => s
    | d :: _ =>
      match unitVerdict s.rgd.regions d.curSrc d.curDst with
      | .pass _ _ => s
      | .fail kind dir addr => s.failUnit n kind dir addr
  else s

/-- A list in the order that the number k selects among all its orders. -/
def orderBy {α : Type} : Nat → List α → List α
  | _, [] => []
  | k, x :: xs =>
    let rest := orderBy (k / (xs.length + 1)) xs
    rest.take (k % (xs.length + 1)) ++ x :: rest.drop (k % (xs.length + 1))

/-- R27: every waiting unit is checked again. The order of two or more reports is open (R143): a free value
chooses it (log 6). -/
def State.recheckClaims (s : State) : State :=
  let failing := allFour.filter (fun n => s.claimFails n)
  if failing.length ≤ 1 then failing.foldl State.recheckClaim s
  else
    (orderBy (Config.reportOrder s.freeCount) failing).foldl State.recheckClaim
      { s with freeCount := s.freeCount + 1 }

/-! ### The strobes -/

/-- A taken RLOAD (R26 to R29). -/
def State.loadRegion (s : State) (r : Fin 4) (e : RegionEntry) : State :=
  let old := s.rgd.regions.get r
  let table := s.rgd.regions.set r e
  ((({ s with rgd := { s.rgd with regions := table } } : State).markStale r old e).reloadRefresh
    (anyDynamic s.rgd.regions) (anyDynamic table)).recheckClaims

/-- RLOAD (R24, R25): the index, the staged record, OVERLAP, in that order. -/
def State.rload (s : State) (data : Byte) : State :=
  match index4 data with
  | none => s.setResult .badIndex
  | some r =>
    match s.rgd.staging.entry with
    | none => s.setResult .badRecord
    | some e =>
      if overlaps s.rgd.regions r e then s.setResult .overlap
      else (s.loadRegion r e).setResult .ok

/-- RREAD (R30): the entry replaces all four staging registers. -/
def State.rread (s : State) (data : Byte) : State :=
  match index4 data with
  | none => s.setResult .badIndex
  | some r =>
    ({ s with rgd := { s.rgd with staging := (s.rgd.regions.get r).staging } } : State).setResult .ok

/-- RLOAD, a register window write. -/
def execRload (data : Byte) (s : State) : Host.Outcome State Fault Refusal :=
  .next (s.windowCycle (fun t => t.rload data))

/-- RREAD, a register window write. -/
def execRread (data : Byte) (s : State) : Host.Outcome State Fault Refusal :=
  .next (s.windowCycle (fun t => t.rread data))

end Sys2Proof.Machine
end

