-- ==== Sys2Proof/Machine/Resets.lean ====
section
/-! DEFINITION. The two resets (R158, R159). -/
namespace Sys2Proof.Machine

/-- A channel grant passes to RESIDUAL; REFRESH, PROCESSOR, RESIDUAL and NONE stand (R57). -/
def State.residualFromChannel (s : State) : State :=
  match s.parb.holder with
  | .channel _ => s.giveUpGrant
  | .none => s
  | .refresh => s
  | .processor => s
  | .residual => s

/-- Controller reset (R158): every effect in the one event. -/
def State.controllerReset (s : State) : State :=
  let s1 := s.residualFromChannel
  { s1 with
    parb := { s1.parb with pointer := 3 },
    txe := { s1.txe with chans := s1.txe.chans.map (fun c => Channel.reset c.trq), flushn := 0 },
    clog := Clog.reset,
    flog := Flog.reset,
    iru := { s1.iru with lost := false, port := false },
    win := { s1.win with result := .ok, snapshot := Snapshot.reset } }

/-- CTLRST, a register window write; its data byte is disregarded. -/
def execCtlrst (_data : Byte) (s : State) : Host.Outcome State Fault Refusal :=
  .next (s.windowCycle State.controllerReset)

/-- Pin reset (R159 and the reset values each block names). The request lines are inputs and keep their levels
(R128; log 17); the queue and the free value counter are the model's own. -/
def State.pinReset (s : State) : State :=
  { State.reset with
    pending := s.pending,
    txe := Txe.reset (s.txe.chans.map (fun c => c.trq)),
    freeCount := s.freeCount }

/-- PIN_RESET (R159). -/
def execPinReset (s : State) : Host.Outcome State Fault Refusal := .next s.pinReset

end Sys2Proof.Machine
end

