-- ==== Sys2Proof/Machine/Windows.lean ====
section
/-! DEFINITION. Chapter 1: the WLOAD and WREAD strobes. -/
namespace Sys2Proof.Machine

/-- WLOAD (R9, R10): the index, then the staged record; the whole record replaces the entry. -/
def State.wload (s : State) (data : Byte) : State :=
  match index8 data with
  | none => s.setResult .badIndex
  | some i =>
    if s.wtu.staging.ok then
      ({ s with wtu := { s.wtu with windows := s.wtu.windows.set i s.wtu.staging.entry } } : State).setResult .ok
    else s.setResult .badRecord

/-- WREAD (R11): the entry replaces all four staging registers. -/
def State.wread (s : State) (data : Byte) : State :=
  match index8 data with
  | none => s.setResult .badIndex
  | some i =>
    ({ s with wtu := { s.wtu with staging := (s.wtu.windows.get i).staging } } : State).setResult .ok

/-- WLOAD, a register window write. -/
def execWload (data : Byte) (s : State) : Host.Outcome State Fault Refusal :=
  .next (s.windowCycle (fun t => t.wload data))

/-- WREAD, a register window write. -/
def execWread (data : Byte) (s : State) : Host.Outcome State Fault Refusal :=
  .next (s.windowCycle (fun t => t.wread data))

end Sys2Proof.Machine
end

