-- ==== Sys2Proof/Machine/Registers.lean ====
section
/-! DEFINITION. Chapter 11: the register map, reads and writes of the register window, the channel
snapshot. -/
namespace Sys2Proof.Machine

/-! ### The snapshot (R156, R157) -/

/-- The view of a channel that a read of CHSTAT captures (R157, 11.8). -/
def Channel.snapshot (c : Channel) : Snapshot :=
  let stat : Byte := BitVec.ofBool c.overrun ++ c.state.code ++ BitVec.ofNat 4 c.queue.length
  let pend : Byte := (0 : BitVec 6) ++ BitVec.ofBool c.flushPending ++ BitVec.ofBool c.holdPending
  match c.queue with
  | d :: _ =>
    { chstat := stat, chsrc := d.curSrc, chdst := d.curDst, chrem := d.remaining, chtag := d.tag, chpend := pend }
  | [] => { chstat := stat, chsrc := 0, chdst := 0, chrem := 0, chtag := 0, chpend := pend }

/-- A read of CHSTAT (R156): the view of the channel CHSEL names is captured, and the captured byte is the data
of the read. -/
def State.readChstat (s : State) : State :=
  let snap := (s.chan s.win.chsel).snapshot
  { s with win := { s.win with snapshot := snap }, pbi := { s.pbi with readOut := some snap.chstat } }

/-! ### Reads (R154) -/

/-- PORTSTAT (R89, 11.8). -/
def State.portstat (s : State) : Byte :=
  (0 : BitVec 2) ++ s.rpc.portState.code ++ BitVec.ofNat 4 s.rpc.debt

/-- The value a register shows (11.6); unused offsets and strobes read 00h. CHSTAT shows the snapshot taken by
the read itself. -/
def State.readRegister (s : State) (off : Offset) : Byte :=
  match off.toNat with
  | 0x00 => getByte s.txe.staging.dsrc 0
  | 0x01 => getByte s.txe.staging.dsrc 1
  | 0x02 => getByte s.txe.staging.dsrc 2
  | 0x03 => getByte s.txe.staging.ddst 0
  | 0x04 => getByte s.txe.staging.ddst 1
  | 0x05 => getByte s.txe.staging.ddst 2
  | 0x06 => getByte s.txe.staging.dcnt 0
  | 0x07 => getByte s.txe.staging.dcnt 1
  | 0x08 => s.txe.staging.dmode
  | 0x09 => s.txe.staging.dtag
  | 0x10 => s.win.result.byte
  | 0x11 => BitVec.ofNat 8 s.txe.flushn
  | 0x12 => BitVec.ofNat 8 s.win.chsel.val
  | 0x13 => (s.chan s.win.chsel).snapshot.chstat
  | 0x14 => getByte s.win.snapshot.chsrc 0
  | 0x15 => getByte s.win.snapshot.chsrc 1
  | 0x16 => getByte s.win.snapshot.chsrc 2
  | 0x17 => getByte s.win.snapshot.chdst 0
  | 0x18 => getByte s.win.snapshot.chdst 1
  | 0x19 => getByte s.win.snapshot.chdst 2
  | 0x1A => getByte s.win.snapshot.chrem 0
  | 0x1B => getByte s.win.snapshot.chrem 1
  | 0x1C => s.win.snapshot.chtag
  | 0x1D => (s.chan s.win.chsel).stored.byte
  | 0x1E => s.win.snapshot.chpend
  | 0x20 => s.wtu.staging.wbase
  | 0x21 => s.wtu.staging.wcount
  | 0x22 => getByte s.wtu.staging.wframe 0
  | 0x23 => getByte s.wtu.staging.wframe 1
  | 0x24 => s.wtu.staging.wflags.setWidth 8
  | 0x28 => getByte s.rgd.staging.rstart 0
  | 0x29 => getByte s.rgd.staging.rstart 1
  | 0x2A => getByte s.rgd.staging.rend 0
  | 0x2B => getByte s.rgd.staging.rend 1
  | 0x2C => s.rgd.staging.rkind.setWidth 8
  | 0x2D => s.rgd.staging.rattr
  | 0x30 => BitVec.ofNat 8 s.clog.records.length
  | 0x31 => (s.clog.records.head?.map (fun r => r.seq)).getD 0
  | 0x32 => (s.clog.records.head?.map CompletionRecord.lchst).getD 0
  | 0x33 => (s.clog.records.head?.map (fun r => r.tag)).getD 0
  | 0x34 => (s.clog.records.head?.map (fun r => getByte r.remaining 0)).getD 0
  | 0x35 => (s.clog.records.head?.map (fun r => getByte r.remaining 1)).getD 0
  | 0x38 => BitVec.ofNat 8 s.flog.records.length
  | 0x39 => (s.flog.records.head?.map FaultRecord.fkind).getD 0
  | 0x3A => getByte ((s.flog.records.head?.bind (fun r => r.logical)).getD 0) 0
  | 0x3B => getByte ((s.flog.records.head?.bind (fun r => r.logical)).getD 0) 1
  | 0x3C => getByte ((s.flog.records.head?.bind (fun r => r.physical)).getD 0) 0
  | 0x3D => getByte ((s.flog.records.head?.bind (fun r => r.physical)).getD 0) 1
  | 0x3E => getByte ((s.flog.records.head?.bind (fun r => r.physical)).getD 0) 2
  | 0x3F => (s.flog.records.head?.bind (fun r => r.tag)).getD 0
  | 0x44 => s.rpc.rfint.extractLsb' 0 8
  | 0x45 => (s.rpc.rfint.extractLsb' 8 4).setWidth 8
  | 0x46 => BitVec.ofNat 8 s.rpc.rfurg
  | 0x47 => s.portstat
  | 0x4C => if s.parb.mode = .rotating then 1 else 0
  | 0x4D => s.iru.inten.setWidth 8
  | 0x4E => s.causes.setWidth 8
  | _ => 0

/-- A register window read at an offset (R153, R154): the byte the register shows at that moment is driven
on D0 to D7 (log 19); no state changes but at CHSTAT, which captures (R156). -/
def State.readAt (s : State) (off : Offset) : State :=
  if off = 0x13 then s.readChstat
  else { s with pbi := { s.pbi with readOut := some (s.readRegister off) } }

/-- CHSTAT_READ (R156), and a register read at any other offset (R153, R154; log 35). -/
def execChstatRead (s : State) (off : Offset := 0x13) : Host.Outcome State Fault Refusal :=
  .next (s.windowCycle (fun t => t.readAt off))

/-! ### Writes (R154) -/

/-- A plain read-write register stores the byte under its own rule: the staging records (R8, R23, R94) and CHSEL
(R156). No other offset is changed here. -/
def State.writePlain (s : State) (off : Offset) (b : Byte) : State :=
  let d := s.txe.staging
  let w := s.wtu.staging
  let r := s.rgd.staging
  match off.toNat with
  | 0x00 => { s with txe := { s.txe with staging := { d with dsrc := setByte d.dsrc 0 b } } }
  | 0x01 => { s with txe := { s.txe with staging := { d with dsrc := setByte d.dsrc 1 b } } }
  | 0x02 => { s with txe := { s.txe with staging := { d with dsrc := setByte d.dsrc 2 b } } }
  | 0x03 => { s with txe := { s.txe with staging := { d with ddst := setByte d.ddst 0 b } } }
  | 0x04 => { s with txe := { s.txe with staging := { d with ddst := setByte d.ddst 1 b } } }
  | 0x05 => { s with txe := { s.txe with staging := { d with ddst := setByte d.ddst 2 b } } }
  | 0x06 => { s with txe := { s.txe with staging := { d with dcnt := setByte d.dcnt 0 b } } }
  | 0x07 => { s with txe := { s.txe with staging := { d with dcnt := setByte d.dcnt 1 b } } }
  | 0x08 => { s with txe := { s.txe with staging := { d with dmode := b } } }
  | 0x09 => { s with txe := { s.txe with staging := { d with dtag := b } } }
  | 0x12 => { s with win := { s.win with chsel := chselOf b } }
  | 0x20 => { s with wtu := { s.wtu with staging := { w with wbase := b } } }
  | 0x21 => { s with wtu := { s.wtu with staging := { w with wcount := b } } }
  | 0x22 => { s with wtu := { s.wtu with staging := { w with wframe := setByte w.wframe 0 b } } }
  | 0x23 => { s with wtu := { s.wtu with staging := { w with wframe := setByte w.wframe 1 b } } }
  | 0x24 => { s with wtu := { s.wtu with staging := { w with wflags := b.setWidth 3 } } }
  | 0x28 => { s with rgd := { s.rgd with staging := { r with rstart := setByte r.rstart 0 b } } }
  | 0x29 => { s with rgd := { s.rgd with staging := { r with rstart := setByte r.rstart 1 b } } }
  | 0x2A => { s with rgd := { s.rgd with staging := { r with rend := setByte r.rend 0 b } } }
  | 0x2B => { s with rgd := { s.rgd with staging := { r with rend := setByte r.rend 1 b } } }
  | 0x2C => { s with rgd := { s.rgd with staging := { r with rkind := b.setWidth 6 } } }
  | 0x2D => { s with rgd := { s.rgd with staging := { r with rattr := b } } }
  | _ => s

/-- A register window write at any offset (R154): a command for a strobe, the register's own rule for a
read-write register; a write to a read-only or unused offset is ignored. -/
def State.writeAt (s : State) (off : Offset) (b : Byte) : State :=
  match off.toNat with
  | 0x0A => s.enq b
  | 0x0B => s.start b
  | 0x0C => s.hold b
  | 0x0D => s.resume b
  | 0x0E => s.skip b
  | 0x0F => s.flush b
  | 0x1D => s.writeChcfg b
  | 0x25 => s.wload b
  | 0x26 => s.wread b
  | 0x2E => s.rload b
  | 0x2F => s.rread b
  | 0x36 => s.logpop
  | 0x40 => s.fltpop
  | 0x44 => s.writeRfint false b
  | 0x45 => s.writeRfint true b
  | 0x46 => s.writeRfurg b
  | 0x48 => s.park
  | 0x49 => s.wake
  | 0x4C => s.writeArbmode b
  | 0x4D => s.writeInten b
  | 0x4E => s.writeIntcause b
  | 0x4F => s.controllerReset
  | _ => s.writePlain off b

/-- REGISTER_WRITE (R154). A well-formed one names a plain register; at any other offset the write does what
R154 gives that offset (log 29). -/
def execRegisterWrite (off : Offset) (data : Byte) (s : State) : Host.Outcome State Fault Refusal :=
  .next (s.windowCycle (fun t => t.writeAt off data))

end Sys2Proof.Machine
end

