-- ==== Sys2Proof/Machine/Processor.lean ====
section
/-! DEFINITION. Chapter 3: the processor's memory cycles, and the cycles held under R43. -/
namespace Sys2Proof.Machine

/-- A memory cycle is taken as NOT CLAIMED (R32, R33): PASSIVE, or IDLE again when MEMC has gone inactive
meanwhile (log 10). -/
def State.standAside (s : State) (c : Option CycleRecord) : State :=
  if s.pbi.memc then { s with pbi := { s.pbi with phase := .passive, cycle := c } }
  else { s with pbi := { s.pbi with phase := .idle, cycle := none } }

/-- The PROCESSOR claim is raised (R36): WAITING; while the port is PARKED it begins the automatic wake (R39). -/
def State.raiseClaim (s : State) (c : CycleRecord) : State :=
  let s1 : State := { s with pbi := { s.pbi with phase := .waiting, cycle := some c } }
  if s.rpc.portState = .parked then s1.startWake .processor else s1

/-- The checks of a claimed direction (R34): window, rights, region, protection, in that order. -/
def State.checkCycle (s : State) (pins : BusPins) (dir : Direction) : State :=
  let c : CycleRecord :=
    { dir := dir, logical := pins.addr, physical := none, region := none, writeData := none, readData := none }
  match windowVerdict s.wtu.windows pins.addr dir with
  | .notClaimed => s.standAside (some c)
  | .rights pa => s.faultCycle { c with physical := some pa } .rights
  | .claimed pa =>
    match regionVerdict s.rgd.regions pa dir with
    | .unmapped => s.faultCycle { c with physical := some pa } .unmapped
    | .protect => s.faultCycle { c with physical := some pa } .protect
    | .region n =>
      s.raiseClaim { c with physical := some pa, region := some n,
                            writeData := if dir = .write then some pins.data else none }

/-- The lookup and checks of a memory cycle (R32): RD alone is a READ, WR alone a WRITE; with both or neither the
PBI makes no lookup and stands aside. -/
def State.lookUpCycle (s : State) (pins : BusPins) : State :=
  match pins.rd, pins.wr with
  | true, false => s.checkCycle pins .read
  | false, true => s.checkCycle pins .write
  | true, true => s.standAside none
  | false, false => s.standAside none

/-- A memory cycle begins (R32): MEMC becomes active. In IDLE it is looked up at once; while the PBI is not IDLE
it is held (R43). While a cycle is held the processor begins no other (log 9). -/
def State.beginMemoryCycle (s : State) (pins : BusPins) : State :=
  if s.pbi.held.isSome then s
  else
    let s1 := s.newCycle
    let s2 : State := { s1 with pbi := { s1.pbi with memc := true } }
    if s2.pbi.phase = .idle then s2.lookUpCycle pins
    else { s2 with pbi := { s2.pbi with held := some .memory } }

/-- MEMORY_CYCLE (R32). -/
def execMemoryCycle (pins : BusPins) (s : State) : Host.Outcome State Fault Refusal :=
  .next (s.beginMemoryCycle pins)

/-- A register window cycle as its pins spell it (R153): a read, a write, or, with both or neither of RD and WR,
not served. -/
def State.serveWindow (s : State) (pins : BusPins) : State :=
  let off : Offset := pins.addr.setWidth 7
  match pins.rd, pins.wr with
  | true, false => s.readAt off
  | false, true => s.writeAt off pins.data
  | true, true => s
  | false, false => s

/-- HELD_CYCLE_SERVED (R43): due when the PBI is IDLE and a cycle is held; the pins are those presented at that
moment. -/
def execHeldCycleServed (pins : BusPins) (s : State) : Host.Outcome State Fault Refusal :=
  if s.pbi.phase = .idle then
    match s.pbi.held with
    | some .memory => .next (({ s with pbi := { s.pbi with held := none } } : State).lookUpCycle pins)
    | some .window => .next (({ s with pbi := { s.pbi with held := none } } : State).serveWindow pins)
    | none => .next s
  else .next s

/-- CYCLE_END: the processor ends its cycle. MEMC becomes inactive (R42, R33, R43); with MEMC inactive already, it
is RD or RWS of a register read that becomes inactive, and D0 to D7 go into high impedance (R153; log 19). -/
def execCycleEnd (s : State) : Host.Outcome State Fault Refusal :=
  if s.pbi.memc then .next s.endCycle else .next s.released

end Sys2Proof.Machine
end

