-- ==== Sys2Proof/Machine/Sequencer.lean ====
section
/-! DEFINITION. Chapter 5: the completions MSEQ reports, TIMEOUT and the end of a residual operation. -/
namespace Sys2Proof.Machine

/-- The open row record a completed ROW_OPEN of an access writes (R64 to R66): stale, with the penalty the
ROW_OPEN used, when a load marked the region during the grant. -/
def Access.openRow (a : Access) : OpenRow :=
  { region := a.region, row := a.entry.rowOf a.addr, addr := a.entry.rowStart (a.entry.rowOf a.addr),
    stale := if a.staleMark then some a.entry.rowPenalty.toNat else none }

/-- The open row record replaced. -/
def State.setRecord (s : State) (r : Option OpenRow) : State :=
  { s with mseq := { s.mseq with record := r } }

/-- A processor READ or WRITE completes (R40): the read data, the release, the end of the grant. -/
def State.finishAccess (s : State) (md : Byte) : State :=
  match s.pbi.cycle with
  | some c =>
    s.endGrant.releaseProcessor { c with readData := if c.dir = .read then some md else c.readData }
  | none => s.endGrant

/-- ACCESS_COMPLETE (R40): due when the READ or WRITE of the PROCESSOR grant is in progress and may complete
(R67). -/
def execAccessComplete (md : Byte) (s : State) : Host.Outcome State Fault Refusal :=
  let due := s.parb.holder = .processor ∧ s.mayComplete = true
  match s.mseq.op with
  | some ⟨.read, _, .processor _ _⟩ => if due then .next (s.finishAccess md) else .next s
  | some ⟨.write, _, .processor _ _⟩ => if due then .next (s.finishAccess md) else .next s
  | _ => .next s

/-- TEND as the WRITE half of a unit begins (R117): the head's end-signal is set and its remaining is 1. -/
def Channel.beginWrite (c : Channel) : Channel :=
  match c.queue with
  | d :: _ => { c with tend := d.endSignal && (d.remaining == 1) }
  | [] => c

/-- The READ of a unit completes (R63): MSEQ holds the byte and begins the WRITE half's operations. -/
def State.finishRead (s : State) (n : Fin 4) (dst : Access) (md : Byte) : State :=
  (s.setChan n (s.chan n).beginWrite).beginWork (.unitWrite n dst md)

/-- UNIT_READ_COMPLETE (R63): due when the READ of a unit is in progress under its channel's grant and may complete
(R67). -/
def execUnitReadComplete (md : Byte) (s : State) : Host.Outcome State Fault Refusal :=
  match s.mseq.op with
  | some ⟨.read, _, .unitRead n _ dst⟩ =>
    if s.parb.holder = .channel n ∧ s.mayComplete = true then .next (s.finishRead n dst md) else .next s
  | _ => .next s

/-- A ROW_OPEN completes (R64, R65): the record is written, and the READ or WRITE it preceded begins (log 11);
under RESIDUAL the grant ends instead (R73, R112). -/
def State.finishRowOpen (s : State) (w : Work) (a : Access) : State :=
  let s1 := s.setRecord (some a.openRow)
  if s.parb.holder = .residual then s1.endGrant else s1.startOp w a.mainOp

/-- ROW_OPEN (R65): due when a ROW_OPEN is in progress. -/
def execRowOpen (s : State) : Host.Outcome State Fault Refusal :=
  match s.mseq.op with
  | some ⟨.rowOpen, _, w⟩ =>
    match w.access with
    | some a => .next (s.finishRowOpen w a)
    | none => .next s
  | _ => .next s

/-- A ROW_CLOSE completes (R64): the record is absent, and the next operation of the work begins; under RESIDUAL
the grant ends (R55), and a park step that needed the close alone ends in PARKED (R85). -/
def State.finishRowClose (s : State) (w : Work) : State :=
  let s1 := s.setRecord none
  if s.parb.holder = .residual then s1.endGrant
  else
    match w with
    | .parkClose => s1.enterParked
    | _ => s1.beginWork w

/-- ROW_CLOSE (R64, R65): due when a ROW_CLOSE is in progress. -/
def execRowClose (s : State) : Host.Outcome State Fault Refusal :=
  match s.mseq.op with
  | some ⟨.rowClose _ _, _, w⟩ => .next (s.finishRowClose w)
  | _ => .next s

/-- The TIMEOUT report to channel n (R111, R125): the fault, then a pending flush, or FAULTED with hold pending
cleared. -/
def State.timeoutUnit (s : State) (n : Fin 4) (a : Access) : State :=
  let c := s.chan n
  let s1 := s.fileFault { source := .channel n, kind := .timeout, dir := a.dir.fault, logical := none,
                          physical := some a.addr, tag := c.headTag }
  if c.flushPending then s1.flushNow n
  else s1.setChan n { c.release with state := .faulted, holdPending := false }

/-- The TIMEOUT report to the requester the holder names (R68, R72); under RESIDUAL it goes to no one (R73). -/
def State.reportTimeout (s : State) (a : Access) : State :=
  match s.parb.holder with
  | .processor =>
    match s.pbi.cycle with
    | some c => s.faultCycle c .timeout
    | none => s
  | .channel n => s.timeoutUnit n a
  | .residual => s
  | .refresh => s
  | .none => s

/-- A READ or WRITE ends as TIMEOUT (R68): the report; the record is cleared; a row that was open is closed under
RESIDUAL, and with none open the holder returns to NONE. -/
def State.endInTimeout (s : State) (a : Access) : State :=
  let s1 := (s.reportTimeout a).setRecord none
  match s.mseq.record with
  | some r =>
    ({ s1 with parb := { s1.parb with holder := .residual } } : State).startOp .timeoutClose
      (.rowClose r (closePenalty s.rgd.regions r))
  | none => s1.endGrant

/-- The access whose READ or WRITE is in progress and may be extended by XRDY (R67). -/
def State.extensible (s : State) : Option Access :=
  match s.mseq.op with
  | some ⟨.read, _, w⟩ => w.access.filter (fun a => a.entry.readyEnable)
  | some ⟨.write, _, w⟩ => w.access.filter (fun a => a.entry.readyEnable)
  | _ => none

/-- TIMEOUT (R68): due when a READ or WRITE to a region with ready enable is in progress. -/
def execTimeout (s : State) : Host.Outcome State Fault Refusal :=
  match s.extensible with
  | some a => .next (s.endInTimeout a)
  | none => .next s

/-- The record after the operation in progress has ended under RESIDUAL (R73). -/
def Operation.recordAfter (o : Operation) (rec : Option OpenRow) : Option OpenRow :=
  match o.kind with
  | .rowOpen => (o.work.access.map Access.openRow).or rec
  | .rowClose _ _ => none
  | _ => rec

/-- RESIDUAL_END (R55, R73): due when an operation is in progress under RESIDUAL and may complete (R67). Its effect
on the record happens, no report is made, and the holder returns to NONE. -/
def execResidualEnd (s : State) : Host.Outcome State Fault Refusal :=
  match s.mseq.op with
  | some o =>
    if s.parb.holder = .residual ∧ s.mayComplete = true then
      .next (s.setRecord (o.recordAfter s.mseq.record)).endGrant
    else .next s
  | none => .next s

end Sys2Proof.Machine
end

