-- ==== Sys2Proof/Machine/Clock.lean ====
section
/-! DEFINITION. One memory clock with no command waiting (log 1): what the part does of itself. A grant decision
or a park step that is due comes first, in no time (R48, R85); else the clock is counted by the interval timer
(R77, R78) and by the operation in progress (R59, R67). -/
namespace Sys2Proof.Machine

/-- A fresh free value has been used. -/
def State.useFree (s : State) : State := { s with freeCount := s.freeCount + 1 }

/-- The interval timer counts one clock (R77, R78). -/
def State.clockTimer (s : State) : State :=
  match s.rpc.timer with
  | none => s
  | some t => if t ≤ 1 then s.expire else { s with rpc := { s.rpc with timer := some (t - 1) } }

/-- The state of an outcome that is a next state. -/
def nextOr (s : State) (o : Host.Outcome State Fault Refusal) : State :=
  match o with
  | .next t => t
  | .fault _ => s
  | .refused _ => s

/-- The READ or WRITE in progress completes: a READ takes a free byte, since no command tells the bank's byte
(log 5). -/
def State.completeAccess (s : State) : State :=
  if s.parb.holder = .residual then nextOr s (execResidualEnd s)
  else
    match s.mseq.op with
    | some ⟨_, _, .processor _ _⟩ => nextOr s (execAccessComplete (Config.bankByte s.freeCount) s.useFree)
    | some ⟨_, _, .unitRead _ _ _⟩ => nextOr s (execUnitReadComplete (Config.bankByte s.freeCount) s.useFree)
    | some ⟨_, _, .unitWrite _ _ _⟩ => nextOr s (execUnitComplete s)
    | _ => s

/-- The sample point of a READ or WRITE, or the end of an extension clock (R67, R68): XRDY that no command tells is
a free value. -/
def State.sample (s : State) (a : Access) : State :=
  if a.entry.readyEnable then
    if 256 ≤ s.mseq.extension then s.endInTimeout a
    else if Config.xrdySample s.freeCount then s.useFree.completeAccess
    else
      { s.useFree with mseq := { s.mseq with
          extension := s.mseq.extension + 1, op := s.mseq.op.map (fun o => { o with left := 0 }) } }
  else s.completeAccess

/-- The operation in progress ends, or reaches its sample point, at the end of this clock. -/
def State.endOp (s : State) (o : Operation) : State :=
  match o.kind with
  | .read | .write =>
    match o.work.access with
    | some a => s.sample a
    | none => s
  | .rowOpen => nextOr s (execRowOpen s)
  | .rowClose _ _ => nextOr s (execRowClose s)
  | .refresh => nextOr s (execRefresh s)
  | .selfRefreshEnter => nextOr s (execSelfRefreshEnter s)
  | .selfRefreshExit => nextOr s (execSelfRefreshExit s)

/-- The operation in progress counts one clock (R59). -/
def State.clockOp (s : State) : State :=
  match s.mseq.op with
  | none => s
  | some o =>
    if 1 < o.left then { s with mseq := { s.mseq with op := some { o with left := o.left - 1 } } } else s.endOp o

/-- The timer expires in this clock. -/
def State.expiryNow (s : State) : Bool :=
  match s.rpc.timer with
  | some t => decide (t ≤ 1)
  | none => false

/-- The operation in progress ends in this clock. -/
def State.opEndsNow (s : State) : Bool :=
  match s.mseq.op with
  | some o => decide (o.left ≤ 1)
  | none => false

/-- One memory clock. Where an expiry and the end of an operation fall together, "either may be taken first"
(R81): a free value chooses (log 7). The decision or the park step that the end of a grant makes room for is the next
step's, so an expiry in this clock always comes before either: at the end of the last grant of a drain, where that is
no REFRESH, it raises the debt to 1 and parking waits (R48 and R85 leave the order open; log 33). -/
def State.clock (s : State) : State :=
  if s.expiryNow && s.opEndsNow then
    if Config.expiryFirst s.freeCount then s.useFree.clockTimer.clockOp else s.useFree.clockOp.clockTimer
  else s.clockTimer.clockOp

/-- What the step does with no command waiting (log 1). A cycle held while the PBI is in IDLE stays held, since its
pins come with HELD_CYCLE_SERVED alone, and the part goes on around it (log 32). -/
def State.idle (s : State) : State :=
  if s.parkStepDue then s.beginParkStep
  else if s.parb.holder = .none ∧ s.decision.isSome = true then s.grantDecision
  else s.clock

end Sys2Proof.Machine
end

