-- ==== Sys2Proof/Machine/Dispatch.lean ====
section
/-! DEFINITION. The dispatch: one arm per row of spec/opcode_table.json, each a call of its meaning. -/
namespace Sys2Proof.Machine

/-- The effect of a command on everything but the queue. -/
def exec (i : Instr) (s : State) : Host.Outcome State Fault Refusal :=
  match i with
  | .enq data => Sys2Proof.Machine.execEnq data s
  | .start data => Sys2Proof.Machine.execStart data s
  | .hold data => Sys2Proof.Machine.execHold data s
  | .resume data => Sys2Proof.Machine.execResume data s
  | .skip data => Sys2Proof.Machine.execSkip data s
  | .flush data => Sys2Proof.Machine.execFlush data s
  | .wload data => Sys2Proof.Machine.execWload data s
  | .wread data => Sys2Proof.Machine.execWread data s
  | .rload data => Sys2Proof.Machine.execRload data s
  | .rread data => Sys2Proof.Machine.execRread data s
  | .logpop data => Sys2Proof.Machine.execLogpop data s
  | .fltpop data => Sys2Proof.Machine.execFltpop data s
  | .park data => Sys2Proof.Machine.execPark data s
  | .wake data => Sys2Proof.Machine.execWake data s
  | .ctlrst data => Sys2Proof.Machine.execCtlrst data s
  | .chstatRead off => Sys2Proof.Machine.execChstatRead s off
  | .rfintWrite high data => Sys2Proof.Machine.execRfintWrite high data s
  | .rfurgWrite data => Sys2Proof.Machine.execRfurgWrite data s
  | .chcfgWrite data => Sys2Proof.Machine.execChcfgWrite data s
  | .intcauseWrite data => Sys2Proof.Machine.execIntcauseWrite data s
  | .intenWrite data => Sys2Proof.Machine.execIntenWrite data s
  | .arbmodeWrite data => Sys2Proof.Machine.execArbmodeWrite data s
  | .registerWrite off data => Sys2Proof.Machine.execRegisterWrite off data s
  | .pinReset => Sys2Proof.Machine.execPinReset s
  | .memoryCycle pins => Sys2Proof.Machine.execMemoryCycle pins s
  | .heldCycleServed pins => Sys2Proof.Machine.execHeldCycleServed pins s
  | .cycleEnd => Sys2Proof.Machine.execCycleEnd s
  | .trqAssert n => Sys2Proof.Machine.execTrqAssert n s
  | .trqDeassert n => Sys2Proof.Machine.execTrqDeassert n s
  | .portGrant => Sys2Proof.Machine.execPortGrant s
  | .accessComplete md => Sys2Proof.Machine.execAccessComplete md s
  | .unitReadComplete md => Sys2Proof.Machine.execUnitReadComplete md s
  | .unitComplete => Sys2Proof.Machine.execUnitComplete s
  | .pendingFlagsActed n => Sys2Proof.Machine.execPendingFlagsActed n s
  | .configurationInUse n => Sys2Proof.Machine.execConfigurationInUse n s
  | .completionRecordTaken => Sys2Proof.Machine.execCompletionRecordTaken s
  | .rowOpen => Sys2Proof.Machine.execRowOpen s
  | .rowClose => Sys2Proof.Machine.execRowClose s
  | .timeout => Sys2Proof.Machine.execTimeout s
  | .residualEnd => Sys2Proof.Machine.execResidualEnd s
  | .refresh => Sys2Proof.Machine.execRefresh s
  | .intervalTimerExpiry => Sys2Proof.Machine.execIntervalTimerExpiry s
  | .parkStep => Sys2Proof.Machine.execParkStep s
  | .selfRefreshEnter => Sys2Proof.Machine.execSelfRefreshEnter s
  | .selfRefreshExit => Sys2Proof.Machine.execSelfRefreshExit s

end Sys2Proof.Machine
end

