-- ==== Sys2Proof/Safety.lean ====
section
/-! DEFINITION. What a safe run keeps: the invariants of the NJ440, block by block, each with the rules that
promise it (`State.Inv` is all of them together), and the few words the statements are written in. -/
namespace Sys2Proof.Machine

/-- R1 and R15: every window and region entry is well formed; R25: no two enabled regions share a frame. -/
abbrev State.TablesOk (s : State) : Prop :=
  (∀ i : Fin 8, (s.wtu.windows.get i).wf = true) ∧
  (∀ r : Fin 4, (s.rgd.regions.get r).wf = true) ∧
  (∀ r q : Fin 4, r ≠ q → (s.rgd.regions.get r).enable = true → (s.rgd.regions.get q).enable = true →
    (s.rgd.regions.get r).shares (s.rgd.regions.get q) = false)

/-- The burst limit of a configuration is 1 to 16 (R103). -/
abbrev ChanConfig.Ok (c : ChanConfig) : Prop := 1 ≤ c.burst ∧ c.burst ≤ 16

/-- The capacities and ranges of the queues, logs and counters: R98 (8 descriptors), R129 (16 records), R142 (4
records), R78 (debt 8), R80 (RFURG 1 to 8), R99 (FLUSHN 0 to 8), R103 (burst limits), R67 (extension 256). -/
abbrev State.CapacityOk (s : State) : Prop :=
  (∀ n : Fin 4, (s.chan n).queue.length ≤ 8 ∧ (s.chan n).stored.Ok ∧ (s.chan n).inUse.Ok) ∧
  s.clog.records.length ≤ 16 ∧ s.flog.records.length ≤ 4 ∧ s.rpc.debt ≤ 8 ∧
  (1 ≤ s.rpc.rfurg ∧ s.rpc.rfurg ≤ 8) ∧ s.txe.flushn ≤ 8 ∧ s.mseq.extension ≤ 256

/-- The sequence numbers, oldest to newest, run up to the next-sequence counter (R131). -/
def seqRun : List CompletionRecord → Byte → Prop
  | [], _ => True
  | r :: rest, next => r.seq + BitVec.ofNat 8 (rest.length + 1) = next ∧ seqRun rest next

/-- R131: the sequence numbers in the log are consecutive modulo 256 and end just below the counter. -/
def State.SequenceOk (s : State) : Prop := seqRun s.clog.records s.clog.nextSeq

/-- R82: SREF is asserted exactly in PARKED; the debt is 0 and the timer stopped in PARKED, WAKING and the park
step; R85: the park step is part of DRAINING; R88: a wake cause stands exactly in WAKING. R77: the timer runs
exactly while its three conditions hold, with 1 to 4095 clocks left (R75). -/
abbrev State.PortOk (s : State) : Prop :=
  (s.rpc.sref = true ↔ s.rpc.portState = .parked) ∧
  (s.rpc.portState = .parked ∨ s.rpc.portState = .waking ∨ s.rpc.parkStep = true → s.rpc.debt = 0) ∧
  (s.rpc.parkStep = true → s.rpc.portState = .draining) ∧
  (s.rpc.wakeCause.isSome = true ↔ s.rpc.portState = .waking) ∧
  (s.rpc.timer.isSome = true ↔
    s.rpc.rfint ≠ 0 ∧ anyDynamic s.rgd.regions = true ∧ s.rpc.timerGate = true) ∧
  (∀ t ∈ s.rpc.timer, 1 ≤ t ∧ t ≤ 4095)

/-- The limit a port request carries. -/
def PortRequest.limit : PortRequest → Option Nat
  | .none => .none
  | .claim l => l
  | .grant l _ => l

/-- R106 and R107: a claim or a grant only in BUSY; READY has no descriptor; BUSY, FAULTED and POSTING have a head;
an offer exactly in POSTING, spelling the head; the pending flags only with a grant, or in POSTING for hold; OFF
has latch and overrun clear; LEVEL keeps no latch (R104); without claim and grant the configuration in use is the
stored one (R104); TAKn exactly with the grant of a PACED head, TEND only with a grant (R117); a request carries a
burst limit exactly for a FREE head (R47); remaining is 0 only in POSTING a DONE record (R100); a BUSY channel
with neither claim nor grant waits for its pacing condition (R108). -/
abbrev Channel.Ok (c : Channel) : Prop :=
  (c.port ≠ .none → c.state = .busy) ∧
  (c.state = .ready → c.queue = []) ∧
  (c.state = .busy ∨ c.state = .faulted ∨ c.state = .posting → c.queue ≠ []) ∧
  (c.offer.isSome = true ↔ c.state = .posting) ∧
  (∀ o ∈ c.offer, ∀ d ∈ c.queue.head?, o.tag = d.tag ∧ o.remaining = d.remaining ∧ o.notify = d.notify ∧
    (o.status = .done ↔ d.remaining = 0)) ∧
  (c.flushPending = true → c.granted = true) ∧
  (c.holdPending = true → c.granted = true ∨ c.state = .posting) ∧
  (c.state = .off → c.latch = false ∧ c.overrun = false) ∧
  (c.inUse.sense = .level → c.latch = false) ∧
  (c.port = .none → c.inUse = c.stored) ∧
  (c.tak = true ↔ c.granted = true ∧ c.pacedHead = true) ∧
  (c.tend = true → c.granted = true) ∧
  (c.port ≠ .none → (c.port.limit.isSome = true ↔ c.pacedHead = false)) ∧
  (∀ d ∈ c.queue.tail, d.remaining ≠ 0) ∧
  (∀ d ∈ c.queue.head?, d.remaining = 0 → c.state = .posting) ∧
  (∀ d ∈ c.queue.head?, c.state = .busy → c.port = .none → c.pacingHolds d = false)

/-- The channels: each in order; a waiting record only while the log is full (R133); the unit of a standing claim
passes its check (R27); a channel holds the grant exactly when PARB names it (R46, R55). -/
abbrev State.ChannelsOk (s : State) : Prop :=
  (∀ n : Fin 4, (s.chan n).Ok) ∧
  (∀ n : Fin 4, (s.chan n).state = .posting → 16 ≤ s.clog.records.length) ∧
  (∀ n : Fin 4, s.claimFails n = false) ∧
  (∀ n : Fin 4, s.parb.holder = .channel n ↔ (s.chan n).granted = true)

/-- R31 and R34: what the cycle record of a claimed cycle holds while it waits or is served, judged against the
region table (R20: the table cannot change meanwhile). -/
def CycleRecord.claimed (t : Quad RegionEntry) (c : CycleRecord) : Bool :=
  match c.physical, c.region with
  | some pa, some r => regionVerdict t pa c.dir == .region r && (c.dir == .read || c.writeData.isSome)
  | _, _ => false

/-- The PBI: a cycle record exactly as the phase asks for (R31); PASSIVE and ENDING last only while MEMC is active
(R33, R42); a cycle is held only in WAITING, ACCESS or on its way through IDLE (R43); ACCESS exactly while the
processor holds the grant (R40); a register read drives D0 to D7 only on a quiet bus (R31, R153). -/
abbrev State.PbiOk (s : State) : Prop :=
  (s.pbi.phase = .idle → s.pbi.cycle = none) ∧
  (s.pbi.phase = .ending → s.pbi.cycle.isSome = true) ∧
  (s.pbi.phase = .waiting ∨ s.pbi.phase = .access →
    (s.pbi.cycle.map (CycleRecord.claimed s.rgd.regions)) = some true) ∧
  (s.pbi.phase = .passive ∨ s.pbi.phase = .ending → s.pbi.memc = true ∧ s.pbi.held = none) ∧
  (s.pbi.phase = .idle → s.pbi.memc = true → s.pbi.held = some .memory) ∧
  (s.pbi.held = some .window → s.pbi.memc = false) ∧
  (s.pbi.phase = .access ↔ s.parb.holder = .processor) ∧
  (s.pbi.readOut ≠ none → s.pbi.phase = .idle ∧ s.pbi.memc = false ∧ s.pbi.held = none)

/-- A captured access: its address lies in its region as captured, which is enabled, and write protect was clear for
a WRITE (R27); unmarked, a DYNAMIC region is still as captured (R28). -/
abbrev Access.Ok (t : Quad RegionEntry) (a : Access) : Prop :=
  a.entry.contains (frameOf a.addr) = true ∧ a.entry.wf = true ∧
  (a.dir = .write → a.entry.writeProtect = false) ∧
  (a.staleMark = false → a.entry.isDynamic = true → t.get a.region = a.entry)

/-- The accesses of a piece of work. -/
def Work.accesses : Work → List Access
  | .processor a _ => [a]
  | .unitRead _ src dst => [src, dst]
  | .unitWrite _ dst _ => [dst]
  | .refresh _ => []
  | .enter _ => []
  | .parkClose => []
  | .wakeUp _ => []
  | .timeoutClose => []

/-- Who holds the grant, and in which port state, for each kind of work (R52, R55, R85, R88). -/
def Work.holderOk (s : State) : Work → Bool
  | .processor _ _ => s.parb.holder == .processor
  | .unitRead n src dst => (s.parb.holder == .channel n || s.parb.holder == .residual) && src.dir == .read
      && dst.dir == .write
  | .unitWrite n dst _ => (s.parb.holder == .channel n || s.parb.holder == .residual) && dst.dir == .write
  | .refresh _ => s.parb.holder == .refresh
  | .enter _ => s.parb.holder == .none && s.rpc.parkStep
  | .parkClose => s.parb.holder == .none && s.rpc.parkStep
  | .wakeUp _ => s.parb.holder == .none && s.rpc.portState == .waking
  | .timeoutClose => s.parb.holder == .residual

/-- The operations each kind of work asks for (R59, R60, R69, R70, R71). -/
def Operation.kindOk (o : Operation) : Bool :=
  match o.kind with
  | .read => (o.work.access.map (fun a => a.dir)) == some .read
  | .write => (o.work.access.map (fun a => a.dir)) == some .write
  | .rowOpen => (o.work.access.map (fun a => a.entry.isDynamic)) == some true
  | .rowClose _ _ =>
    match o.work with
    | .wakeUp _ => false
    | _ => true
  | .refresh =>
    match o.work with
    | .refresh _ => true
    | _ => false
  | .selfRefreshEnter =>
    match o.work with
    | .enter _ => true
    | _ => false
  | .selfRefreshExit =>
    match o.work with
    | .wakeUp _ => true
    | _ => false

/-- MSEQ: idle exactly with the holder NONE, no park step and no wake; else an operation that fits its work and its
requester (R46, R52, R58); the extension count rises in READ and WRITE alone (R67); a grant only in RUNNING, or in
DRAINING before the park step (R50). -/
abbrev State.MseqOk (s : State) : Prop :=
  (s.mseq.op = none ↔ s.parb.holder = .none ∧ s.rpc.parkStep = false ∧ s.rpc.portState ≠ .waking) ∧
  (∀ o ∈ s.mseq.op, o.kindOk = true ∧ o.work.holderOk s = true ∧
    (∀ a ∈ o.work.accesses, a.Ok s.rgd.regions) ∧
    (o.kind ≠ .read → o.kind ≠ .write → s.mseq.extension = 0)) ∧
  (s.mseq.op = none → s.mseq.extension = 0) ∧
  (s.parb.holder ≠ .none →
    s.rpc.portState = .running ∨ s.rpc.portState = .draining ∧ s.rpc.parkStep = false)

/-- The open row record (5.5, R58): not stale, it names an enabled DYNAMIC region; stale, its close penalty is 1 to
4; it is absent in PARKED and WAKING (R71), and while a ROW_OPEN, REFRESH or SELF_REFRESH_ENTER is in progress
(R64, R69). -/
abbrev State.RecordOk (s : State) : Prop :=
  (∀ r ∈ s.mseq.record, r.stale = none → (s.rgd.regions.get r.region).isDynamic = true) ∧
  (∀ r ∈ s.mseq.record, ∀ p ∈ r.stale, 1 ≤ p ∧ p ≤ 4) ∧
  (s.rpc.portState = .parked ∨ s.rpc.portState = .waking → s.mseq.record = none) ∧
  (∀ o ∈ s.mseq.op, o.kind = .rowOpen ∨ o.kind = .refresh ∨ o.kind = .selfRefreshEnter →
    s.mseq.record = none)

/-- Every invariant together. -/
structure State.Inv (s : State) : Prop where
  tables : s.TablesOk
  capacity : s.CapacityOk
  sequence : s.SequenceOk
  port : s.PortOk
  channels : s.ChannelsOk
  pbi : s.PbiOk
  mseq : s.MseqOk
  record : s.RecordOk

/-! ### The words of the statements -/

/-- The bus is quiet: no memory cycle stands and none is held. This is the spec's condition for a register window
cycle that is served at once (R153: MEMC inactive; R43: the PBI not in WAITING or ACCESS). -/
abbrev State.busQuiet (s : State) : Prop :=
  s.pbi.phase = .idle ∧ s.pbi.memc = false ∧ s.pbi.held = none

/-- The commands that are register window cycles: fourteen strobes and CTLRST, six register writes, REGISTER_WRITE
and CHSTAT_READ. -/
def isWindowCycle (c : Instr) : Bool :=
  c.windowWrite.isSome ||
    match c with
    | .chstatRead _ => true
    | _ => false

/-- The report R109 asks of a unit of channel n with the head `d` that fails its check against a region table, the
source judged first (R21); none for a unit that passes. -/
def unitReport (t : Quad RegionEntry) (n : Fin 4) (d : Descriptor) : Option FaultRecord :=
  let report : FaultKind → FaultDir → PhysAddr → Option FaultRecord := fun kind dir addr =>
    some { source := .channel n, kind := kind, dir := dir, logical := none, physical := some addr, tag := some d.tag }
  match regionOf t d.curSrc, regionOf t d.curDst with
  | none, _ => report .unmapped .read d.curSrc
  | some _, none => report .unmapped .write d.curDst
  | some _, some k => if (t.get k).writeProtect then report .protect .write d.curDst else none

/-- The report of the unit of channel n that waits at the arbiter, if one waits and fails against the table (R27). -/
def State.waitingReport (s : State) (t : Quad RegionEntry) (n : Fin 4) : Option FaultRecord :=
  if (s.chan n).claims then (s.chan n).queue.head?.bind (unitReport t n) else none

/-- `out` is what the end of the READ or WRITE of this work comes to with no command waiting: its completion command,
the byte of a READ left open (log 5), or under RESIDUAL its RESIDUAL_END (R55). -/
def State.accessEnds (s : State) (w : Work) (out : Host.Outcome State Fault Refusal) : Prop :=
  let drawn : State := { s with freeCount := s.freeCount + 1 }
  (s.parb.holder = .residual → out = exec .residualEnd s) ∧
  (s.parb.holder ≠ .residual →
    (∀ a b, w = .processor a b → ∃ md, out = exec (.accessComplete md) drawn) ∧
    (∀ n src dst, w = .unitRead n src dst → ∃ md, out = exec (.unitReadComplete md) drawn) ∧
    (∀ n dst b, w = .unitWrite n dst b → out = exec .unitComplete s))

/-- `out` is what an operation at its last clock comes to with no command waiting (R59): the command that reports its
end; for a READ or WRITE with ready enable what R67 says of the sample, its level left open (log 5): the end, an
extension by one clock, or with the count at 256 the TIMEOUT. -/
def State.lastClock (s : State) (o : Operation) (out : Host.Outcome State Fault Refusal) : Prop :=
  let drawn : State := { s with freeCount := s.freeCount + 1 }
  (o.kind = .rowOpen → out = exec .rowOpen s) ∧
  (∀ row p, o.kind = .rowClose row p → out = exec .rowClose s) ∧
  (o.kind = .refresh → out = exec .refresh s) ∧
  (o.kind = .selfRefreshEnter → out = exec .selfRefreshEnter s) ∧
  (o.kind = .selfRefreshExit → out = exec .selfRefreshExit s) ∧
  (∀ a, o.kind = .read ∨ o.kind = .write → o.work.access = some a →
    (a.entry.readyEnable = false → s.accessEnds o.work out) ∧
    (a.entry.readyEnable = true → 256 ≤ s.mseq.extension → out = exec .timeout s) ∧
    (a.entry.readyEnable = true → s.mseq.extension < 256 →
      drawn.accessEnds o.work out ∨
      out = .next { drawn with mseq := { s.mseq with op := some { o with left := 0 },
                                                     extension := s.mseq.extension + 1 } }))

/-- A memory clock with nothing due: no park step, no grant decision to be made (log 1). -/
abbrev State.nothingDue (s : State) : Prop :=
  s.parkStepDue = false ∧ (s.parb.holder ≠ .none ∨ s.decision = none)

/-- How far channel m stands behind the rotation pointer: 0 for the channel looked at first (R51). -/
def Parb.turn (p : Parb) (m : Fin 4) : Nat := (m - p.pointer - 1).val

end Sys2Proof.Machine
end

