-- ==== Sys2Proof/Certificates/Slice0/Obligations.lean ====
section
/-! DEFINITION. The statements for the provers. An equation `exec c s = .next t` names the whole next state, so it
is the command's effect, its completion and its frame in one. The commands that are register window cycles are
stated on a quiet bus (`State.busQuiet`, the condition of R153 and R43); what they do on any other bus is stated
once, for all of them, in `CyclesOnABusyBus`. -/

open Sys2Proof Sys2Proof.Machine

/-! ### The machine as a whole -/

/-- A step takes the command at the front of the queue and runs it on the state with the rest of the queue. -/
def Obligations.StepRunsFrontCommand : Prop :=
  ∀ (c : Instr) (rest : List Instr) (s : State), s.pending = c :: rest →
    step s = exec c { s with pending := rest }

/-- Every command, in every state, answers a next state and leaves the queue alone. That none stops in any state is the
model's reading (log 28, DEDUCED), and that an event not due changes nothing its choice (log 3). -/
def Obligations.EveryCommandAnswersNext : Prop :=
  ∀ (c : Instr) (s : State), ∃ t, exec c s = .next t ∧ t.pending = s.pending

/-- The model's choice (log 1): with no command waiting, a step does what is due of itself, or is one memory clock. A
park step due begins, else a grant due is made (R48, R85), and a cycle held in IDLE stays held (log 32). Else the
interval timer counts the clock, or expires (R77, R78), and so does the operation in progress, which at its last clock
does what `State.lastClock` says (R59, R67; log 5). An expiry and the end of an operation in one clock come in either
order (R81; log 7), and a grant decision or a park step that the end makes room for comes after both, in the next step,
so that the expiry stands before it (R48, R85; log 33). -/
def Obligations.IdleStepCountsOneClock : Prop :=
  ∀ s : State, s.pending = [] →
    (s.parkStepDue = true → step s = exec .parkStep s) ∧
    (s.parkStepDue = false → s.parb.holder = .none → s.decision ≠ none → step s = exec .portGrant s) ∧
    (s.nothingDue →
      let counted : State := { s with rpc := { s.rpc with timer := s.rpc.timer.map (fun k => k - 1) } }
      let drawn : State := { s with freeCount := s.freeCount + 1 }
      let expires : Prop := s.rpc.timer = some 0 ∨ s.rpc.timer = some 1
      (s.mseq.op = none →
        (¬ expires → step s = .next counted) ∧ (expires → step s = exec .intervalTimerExpiry s)) ∧
      (∀ o, s.mseq.op = some o → 1 < o.left →
        let ticked : Mseq := { s.mseq with op := some { o with left := o.left - 1 } }
        (¬ expires → step s = .next { counted with mseq := ticked }) ∧
        (expires → step s = exec .intervalTimerExpiry { s with mseq := ticked })) ∧
      (∀ o, s.mseq.op = some o → o.left ≤ 1 →
        (¬ expires → counted.lastClock o (step s)) ∧
        (expires → s.PortOk →
          (∃ t, exec .intervalTimerExpiry drawn = .next t ∧ t.lastClock o (step s)) ∨
          (∃ t, drawn.lastClock o (.next t) ∧ step s = exec .intervalTimerExpiry t))))

/-- The state after pin reset meets every invariant of the model. -/
def Obligations.ResetMeetsEveryInvariant : Prop := State.reset.Inv

/-- Every step keeps the window and region entries well formed, and the enabled regions apart (R1, R15, R25). -/
def Obligations.StepKeepsTablesWellFormed : Prop :=
  ∀ s t : State, s.TablesOk → step s = .next t → t.TablesOk

/-- Every step keeps the capacities and ranges of queues, logs and counters. -/
def Obligations.StepKeepsCapacities : Prop :=
  ∀ s t : State, s.CapacityOk → step s = .next t → t.CapacityOk

/-- Every step keeps the sequence numbers of the Completion Log consecutive modulo 256 and just below the
counter (R131). -/
def Obligations.StepKeepsSequenceNumbersConsecutive : Prop :=
  ∀ s t : State, s.SequenceOk → step s = .next t → t.SequenceOk

/-- Every step keeps the channels in order, the grant with the channel PARB names, and a record waiting only while
the log is full. -/
def Obligations.StepKeepsChannelsInOrder : Prop :=
  ∀ s t : State, s.ChannelsOk → step s = .next t → t.ChannelsOk

/-- Every step keeps every invariant of the model. -/
def Obligations.StepKeepsEveryInvariant : Prop :=
  ∀ s t : State, s.Inv → step s = .next t → t.Inv

/-! ### Register window cycles -/

/-- What a register window cycle, whatever its command, and a memory cycle do on a bus that is not quiet. In WAITING
and ACCESS the cycle is held (R43); while a cycle is held the processor begins no other (log 9); behind a memory cycle
in PASSIVE or ENDING the new cycle shows that MEMC went inactive, so that cycle has ended (R33, R42, R153; log 8). -/
def Obligations.CyclesOnABusyBus : Prop :=
  ∀ (c : Instr) (s : State), isWindowCycle c = true ∨ (∃ pins, c = .memoryCycle pins) →
    (s.pbi.held = none → s.pbi.phase = .waiting ∨ s.pbi.phase = .access →
      exec c s = .next { s with pbi := { s.pbi with
        memc := !isWindowCycle c, held := some (if isWindowCycle c then .window else .memory),
        readOut := none } }) ∧
    (s.pbi.held ≠ none → exec c s = .next s) ∧
    (s.pbi.held = none → s.pbi.phase = .passive ∨ s.pbi.phase = .ending → s.pbi.memc = true →
      exec c s = exec c { s with pbi := { s.pbi with phase := .idle, cycle := none, memc := false } })

/-- REGISTER_WRITE to a plain read-write register stores the byte under the register's own rule (R8, R23, R94,
R156), and every other register reads as before; CHSEL also turns the views of CHCFG and CHSTAT to the channel it
names. In every state they read as the fields stand, low byte first (R154). -/
def Obligations.PlainRegisterWriteStoresItsByte : Prop :=
  (∀ (off : Offset) (data : Byte) (s : State), s.busQuiet → off.plain = true →
    ∃ t, exec (.registerWrite off data) s = .next t ∧
      t.pending = s.pending ∧ t.pbi = s.released.pbi ∧ t.parb = s.parb ∧ t.mseq = s.mseq ∧ t.rpc = s.rpc ∧
      t.clog = s.clog ∧ t.flog = s.flog ∧ t.iru = s.iru ∧ t.freeCount = s.freeCount ∧
      t.txe.chans = s.txe.chans ∧ t.txe.flushn = s.txe.flushn ∧ t.wtu.windows = s.wtu.windows ∧
      t.rgd.regions = s.rgd.regions ∧ t.win.result = s.win.result ∧ t.win.snapshot = s.win.snapshot ∧
      t.readRegister off =
        (if off = 0x24 then data &&& 0x07 else if off = 0x2C then data &&& 0x3F
          else if off = 0x12 then data &&& 0x03 else data) ∧
      (∀ other : Offset, other ≠ off → (off = 0x12 → other ≠ 0x13 ∧ other ≠ 0x1D) →
        t.readRegister other = s.readRegister other)) ∧
  (∀ u : State,
    u.readRegister 0x02 ++ u.readRegister 0x01 ++ u.readRegister 0x00 = u.txe.staging.dsrc ∧
    u.readRegister 0x05 ++ u.readRegister 0x04 ++ u.readRegister 0x03 = u.txe.staging.ddst ∧
    u.readRegister 0x07 ++ u.readRegister 0x06 = u.txe.staging.dcnt ∧
    u.readRegister 0x08 = u.txe.staging.dmode ∧ u.readRegister 0x09 = u.txe.staging.dtag ∧
    (u.readRegister 0x12).toNat = u.win.chsel.val ∧
    u.readRegister 0x20 = u.wtu.staging.wbase ∧ u.readRegister 0x21 = u.wtu.staging.wcount ∧
    u.readRegister 0x23 ++ u.readRegister 0x22 = u.wtu.staging.wframe ∧
    (u.readRegister 0x24).toNat = u.wtu.staging.wflags.toNat ∧
    u.readRegister 0x29 ++ u.readRegister 0x28 = u.rgd.staging.rstart ∧
    u.readRegister 0x2B ++ u.readRegister 0x2A = u.rgd.staging.rend ∧
    (u.readRegister 0x2C).toNat = u.rgd.staging.rkind.toNat ∧ u.readRegister 0x2D = u.rgd.staging.rattr)

/-- A REGISTER_WRITE at an offset that has a command of its own does what that command does, and one at a read-only
or unused offset is ignored (R154; log 29). The offsets are those of the register map (11.6). What any such cycle does
of itself is to end the byte a register read drove (R153), and a strobe's code goes to RESULT alone (R155). -/
def Obligations.RegisterWriteElsewhereFollowsTheMap : Prop :=
  (∀ (c : Instr) (off : Offset) (data : Byte) (s : State), c.windowWrite = some (off, data) →
    exec (.registerWrite off data) s = exec c s) ∧
  (∀ (off : Offset) (data : Byte) (s : State), s.busQuiet → off.access = .readOnly ∨ off.access = .unused →
    exec (.registerWrite off data) s = .next s.released) ∧
  (∀ d : Byte,
    (Instr.enq d).windowWrite = some (0x0A, d) ∧ (Instr.start d).windowWrite = some (0x0B, d) ∧
    (Instr.hold d).windowWrite = some (0x0C, d) ∧ (Instr.resume d).windowWrite = some (0x0D, d) ∧
    (Instr.skip d).windowWrite = some (0x0E, d) ∧ (Instr.flush d).windowWrite = some (0x0F, d) ∧
    (Instr.chcfgWrite d).windowWrite = some (0x1D, d) ∧ (Instr.wload d).windowWrite = some (0x25, d) ∧
    (Instr.wread d).windowWrite = some (0x26, d) ∧ (Instr.rload d).windowWrite = some (0x2E, d) ∧
    (Instr.rread d).windowWrite = some (0x2F, d) ∧ (Instr.logpop d).windowWrite = some (0x36, d) ∧
    (Instr.fltpop d).windowWrite = some (0x40, d) ∧ (Instr.rfintWrite false d).windowWrite = some (0x44, d) ∧
    (Instr.rfintWrite true d).windowWrite = some (0x45, d) ∧ (Instr.rfurgWrite d).windowWrite = some (0x46, d) ∧
    (Instr.park d).windowWrite = some (0x48, d) ∧ (Instr.wake d).windowWrite = some (0x49, d) ∧
    (Instr.arbmodeWrite d).windowWrite = some (0x4C, d) ∧ (Instr.intenWrite d).windowWrite = some (0x4D, d) ∧
    (Instr.intcauseWrite d).windowWrite = some (0x4E, d) ∧ (Instr.ctlrst d).windowWrite = some (0x4F, d)) ∧
  (∀ u : State, u.released = { u with pbi := { u.pbi with readOut := none } } ∧
    ∀ code, u.setResult code = { u with win := { u.win with result := code } })

/-- HELD_CYCLE_SERVED (R43, R153; the pins come with it: log 9). Outside IDLE or with no cycle held it changes nothing
(log 3). A held read is the register read it spells, a held write the write; a window cycle with both or neither of RD
and WR is not served. A held memory cycle goes as one that begins now, and one whose MEMC went inactive meanwhile does
so too, but is back in IDLE where it would be PASSIVE or ENDING (log 10). -/
def Obligations.HeldCycleIsServedFromIdle : Prop :=
  ∀ (pins : BusPins) (s : State),
    let free : State := { s with pbi := { s.pbi with held := none } }
    (s.pbi.phase ≠ .idle ∨ s.pbi.held = none → exec (.heldCycleServed pins) s = .next s) ∧
    (s.pbi.phase = .idle → s.pbi.held = some .window →
      (pins.rd = pins.wr → exec (.heldCycleServed pins) s = .next free) ∧
      (pins.rd = true → pins.wr = false → (pins.addr.setWidth 7 : Offset) ≠ 0x13 →
        exec (.heldCycleServed pins) s = .next { s with pbi :=
          { s.pbi with held := none, readOut := some (s.readRegister (pins.addr.setWidth 7)) } }) ∧
      (s.pbi.memc = false → s.pbi.readOut = none → pins.rd = true → pins.wr = false →
        exec (.heldCycleServed pins) s = exec (.chstatRead (pins.addr.setWidth 7)) free) ∧
      (s.pbi.memc = false → s.pbi.readOut = none → pins.rd = false → pins.wr = true →
        exec (.heldCycleServed pins) s = exec (.registerWrite (pins.addr.setWidth 7) pins.data) free)) ∧
    (s.pbi.phase = .idle → s.pbi.held = some .memory → s.pbi.readOut = none →
      (s.pbi.memc = true → exec (.heldCycleServed pins) s = exec (.memoryCycle pins) free) ∧
      (s.pbi.memc = false → ∃ t, exec (.memoryCycle pins) free = .next t ∧
        exec (.heldCycleServed pins) s = .next { t with pbi :=
          if t.pbi.phase = .waiting then { t.pbi with memc := false }
          else { t.pbi with phase := .idle, cycle := none, memc := false } }))

/-- CHSTAT_READ captures the view of the channel CHSEL names, whole and in one event, and drives the captured CHSTAT
byte (R156, R157, 11.8). A read of any other register drives the byte it shows at that moment and changes nothing else
(R153, R154; it is this row with another offset: log 35). RESULT shows the code of R155. In every state the snapshot
registers show what was captured last, low byte first (R156, R157), and strobes and unused offsets read 00h (R154). -/
def Obligations.ChstatReadCapturesTheChannel : Prop :=
  (∀ s : State, s.busQuiet → (s.chan s.win.chsel).queue.length ≤ 8 →
    ∃ snap : Snapshot,
      exec (.chstatRead 0x13) s = .next { s with win := { s.win with snapshot := snap },
                                                 pbi := { s.pbi with readOut := some snap.chstat } } ∧
      snap.chstat.toNat = 128 * (s.chan s.win.chsel).overrun.toNat +
        16 * (match (s.chan s.win.chsel).state with
          | .off => 0
          | .ready => 1
          | .busy => 2
          | .held => 3
          | .faulted => 4
          | .posting => 5) +
        (s.chan s.win.chsel).queue.length ∧
      snap.chpend.toNat = 2 * (s.chan s.win.chsel).flushPending.toNat + (s.chan s.win.chsel).holdPending.toNat ∧
      ((s.chan s.win.chsel).queue = [] →
        snap.chsrc = 0 ∧ snap.chdst = 0 ∧ snap.chrem = 0 ∧ snap.chtag = 0) ∧
      (∀ d rest, (s.chan s.win.chsel).queue = d :: rest →
        snap.chsrc = d.curSrc ∧ snap.chdst = d.curDst ∧ snap.chrem = d.remaining ∧ snap.chtag = d.tag)) ∧
  (∀ (off : Offset) (s : State), s.busQuiet → off ≠ 0x13 →
    exec (.chstatRead off) s = .next { s with pbi := { s.pbi with readOut := some (s.readRegister off) } }) ∧
  (∀ s : State, s.readRegister 0x10 =
    match s.win.result with
    | .ok => 0
    | .busy => 1
    | .full => 2
    | .empty => 3
    | .badIndex => 4
    | .badState => 5
    | .badRecord => 6
    | .overlap => 7) ∧
  (∀ u : State,
    u.readRegister 0x16 ++ u.readRegister 0x15 ++ u.readRegister 0x14 = u.win.snapshot.chsrc ∧
    u.readRegister 0x19 ++ u.readRegister 0x18 ++ u.readRegister 0x17 = u.win.snapshot.chdst ∧
    u.readRegister 0x1B ++ u.readRegister 0x1A = u.win.snapshot.chrem ∧
    u.readRegister 0x1C = u.win.snapshot.chtag ∧ u.readRegister 0x1E = u.win.snapshot.chpend) ∧
  (∀ (u : State) (off : Offset),
    (0x0A ≤ off.toNat ∧ off.toNat ≤ 0x0F) ∨ off.toNat = 0x1F ∨ (0x25 ≤ off.toNat ∧ off.toNat ≤ 0x27) ∨
      off.toNat = 0x2E ∨ off.toNat = 0x2F ∨ off.toNat = 0x36 ∨ off.toNat = 0x37 ∨
      (0x40 ≤ off.toNat ∧ off.toNat ≤ 0x43) ∨ (0x48 ≤ off.toNat ∧ off.toNat ≤ 0x4B) ∨ 0x4F ≤ off.toNat →
    u.readRegister off = 0)

/-! ### Windows and regions -/

/-- The lowest-numbered enabled window that contains the page answers, whatever its rights; with none the cycle is
not claimed (R3, R4, R6). Translation through a well-formed window is exact: the frame is frame base + (page − base
page), the offset in the page is kept, and nothing wraps (R5). A well-formed window is one that meets the conditions of
R1; the page is the top four bits of the logical address. -/
def Obligations.LowestWindowAnswersAndTranslates : Prop :=
  (∀ (w : WindowEntry) (page : Nat), w.contains page = true ↔
    w.enable = true ∧ w.basePage.toNat ≤ page ∧ page + 1 ≤ w.basePage.toNat + w.pageCount) ∧
  (∀ a : LogAddr, pageOf a = a.toNat / 4096) ∧
  (∀ w : WindowEntry, w.wf = true ↔
    1 ≤ w.pageCount ∧ w.basePage.toNat + w.pageCount ≤ 16 ∧ w.frameBase.toNat + w.pageCount ≤ 4096) ∧
  (∀ (t : Oct WindowEntry) (a : LogAddr) (dir : Direction),
    ((∀ i, (t.get i).contains (pageOf a) = false) → windowVerdict t a dir = .notClaimed) ∧
    (∀ i, (t.get i).contains (pageOf a) = true → (∀ j < i, (t.get j).contains (pageOf a) = false) →
      windowVerdict t a dir =
        if dir = .read ∧ (t.get i).readRight = true ∨ dir = .write ∧ (t.get i).writeRight = true then
          .claimed ((t.get i).translate a)
        else .rights ((t.get i).translate a))) ∧
  (∀ (w : WindowEntry) (a : LogAddr), w.wf = true → w.contains (pageOf a) = true →
    (w.translate a).toNat + w.basePage.toNat * 4096 = w.frameBase.toNat * 4096 + a.toNat ∧
    frameOf (w.translate a) + w.basePage.toNat = w.frameBase.toNat + pageOf a ∧
    (w.translate a).toNat % 4096 = a.toNat % 4096)

/-- With the tables in order, the region found for an address is the one enabled region that contains its frame (R19,
R25). An enabled region contains the frames from start to end, the frame being the top twelve bits (R19); a
well-formed entry is one that meets the conditions of R15. No row spans two frames: an address lies within its row,
which starts at its number times the row size, and the row within the address's frame (R17). -/
def Obligations.RegionAndRowOfAnAddress : Prop :=
  (∀ (s : State) (a : PhysAddr) (n : Fin 4), s.TablesOk →
    (regionOf s.rgd.regions a = some n ↔ (s.rgd.regions.get n).contains (frameOf a) = true)) ∧
  (∀ (e : RegionEntry) (frame : Nat), e.contains frame = true ↔
    e.enable = true ∧ e.startFrame.toNat ≤ frame ∧ frame ≤ e.endFrame.toNat) ∧
  (∀ a : PhysAddr, frameOf a = a.toNat / 4096) ∧
  (∀ e : RegionEntry, e.wf = true ↔
    e.startFrame.toNat ≤ e.endFrame.toNat ∧
      (e.kind = .dynamic → 1 ≤ e.rowPenalty.toNat ∧ e.rowPenalty.toNat ≤ 4)) ∧
  (RowSize.b512.bytes = 512 ∧ RowSize.b1024.bytes = 1024 ∧ RowSize.b2048.bytes = 2048 ∧
    RowSize.b4096.bytes = 4096) ∧
  (∀ (e : RegionEntry) (a : PhysAddr), e.contains (frameOf a) = true →
    (e.rowStart (e.rowOf a)).toNat = e.startFrame.toNat * 4096 + e.rowOf a * e.rowSize.bytes ∧
    e.rowOf a = (a.toNat - e.startFrame.toNat * 4096) / e.rowSize.bytes ∧
    (e.rowStart (e.rowOf a)).toNat ≤ a.toNat ∧ a.toNat < (e.rowStart (e.rowOf a)).toNat + e.rowSize.bytes ∧
    frameOf (e.rowStart (e.rowOf a)) = frameOf a)

/-- WLOAD checks the index, then the staged record, and replaces the whole entry (R9, R10). -/
def Obligations.WindowLoadReplacesTheEntry : Prop :=
  ∀ (data : Byte) (s : State), s.busQuiet →
    (8 ≤ data.toNat → exec (.wload data) s = .next (s.released.setResult .badIndex)) ∧
    (∀ i : Fin 8, data.toNat = i.val →
      (s.wtu.staging.wcount.toNat = 0 ∨ 16 < s.wtu.staging.wcount.toNat ∨
          16 < s.wtu.staging.wbase.toNat + s.wtu.staging.wcount.toNat ∨
          4096 < s.wtu.staging.wframe.toNat + s.wtu.staging.wcount.toNat →
        exec (.wload data) s = .next (s.released.setResult .badRecord)) ∧
      (1 ≤ s.wtu.staging.wcount.toNat → s.wtu.staging.wcount.toNat ≤ 16 →
          s.wtu.staging.wbase.toNat + s.wtu.staging.wcount.toNat ≤ 16 →
          s.wtu.staging.wframe.toNat + s.wtu.staging.wcount.toNat ≤ 4096 →
        ∃ e : WindowEntry,
          exec (.wload data) s = .next
            ({ s.released with wtu := { s.wtu with windows := s.wtu.windows.set i e } }.setResult .ok) ∧
          e.enable = s.wtu.staging.wflags.getLsbD 0 ∧ e.readRight = s.wtu.staging.wflags.getLsbD 1 ∧
          e.writeRight = s.wtu.staging.wflags.getLsbD 2 ∧ e.basePage.toNat = s.wtu.staging.wbase.toNat ∧
          e.pageCount = s.wtu.staging.wcount.toNat ∧ e.frameBase.toNat = s.wtu.staging.wframe.toNat))

/-- WREAD checks the index and copies the entry into all four staging registers; a WLOAD of the same index that
follows is taken and changes nothing (R11). -/
def Obligations.WindowReadBackReloads : Prop :=
  ∀ (data : Byte) (s : State), s.busQuiet →
    (8 ≤ data.toNat → exec (.wread data) s = .next (s.released.setResult .badIndex)) ∧
    (∀ i : Fin 8, data.toNat = i.val → (s.wtu.windows.get i).wf = true →
      ∃ w : WindowStaging,
        exec (.wread data) s = .next
          ({ s.released with wtu := { s.wtu with staging := w } }.setResult .ok) ∧
        w.wbase.toNat = (s.wtu.windows.get i).basePage.toNat ∧
        w.wcount.toNat = (s.wtu.windows.get i).pageCount ∧
        w.wframe.toNat = (s.wtu.windows.get i).frameBase.toNat ∧
        w.wflags.getLsbD 0 = (s.wtu.windows.get i).enable ∧
        w.wflags.getLsbD 1 = (s.wtu.windows.get i).readRight ∧
        w.wflags.getLsbD 2 = (s.wtu.windows.get i).writeRight ∧
        (∀ t, exec (.wread data) s = .next t → exec (.wload data) t = .next t))

/-- RLOAD refuses, in this order, a bad index, a bad record and an overlap with another enabled region, and then
changes only RESULT (R24, R25). -/
def Obligations.RegionLoadRefusals : Prop :=
  ∀ (data : Byte) (s : State), s.busQuiet →
    (4 ≤ data.toNat → exec (.rload data) s = .next (s.released.setResult .badIndex)) ∧
    (data.toNat < 4 →
      0xFFF < s.rgd.staging.rstart.toNat ∨ 0xFFF < s.rgd.staging.rend.toNat ∨
        s.rgd.staging.rend.toNat < s.rgd.staging.rstart.toNat ∨
        2 ≤ (s.rgd.staging.rkind.extractLsb' 1 2).toNat ∨ 4 ≤ (s.rgd.staging.rkind.extractLsb' 3 3).toNat ∨
        ((s.rgd.staging.rkind.extractLsb' 1 2).toNat = 1 ∧
          ((s.rgd.staging.rattr.extractLsb' 3 3).toNat = 0 ∨ 5 ≤ (s.rgd.staging.rattr.extractLsb' 3 3).toNat)) →
      exec (.rload data) s = .next (s.released.setResult .badRecord)) ∧
    (∀ (r q : Fin 4) (e : RegionEntry), data.toNat = r.val → s.rgd.staging.entry = some e → e.enable = true →
      q ≠ r → (s.rgd.regions.get q).enable = true →
      e.startFrame.toNat ≤ (s.rgd.regions.get q).endFrame.toNat →
      (s.rgd.regions.get q).startFrame.toNat ≤ e.endFrame.toNat →
      exec (.rload data) s = .next (s.released.setResult .overlap))

/-- A taken RLOAD writes the whole record into the entry, marks the open row of a changed DYNAMIC region stale with
its old penalty, and clears or starts the refresh work when the last enabled DYNAMIC region goes or the first one
comes (R26, R28, R29). The operation in progress keeps its kind, its clocks and its work with the entries captured
(R27); only its accesses to that changed region are marked (R28, R66). The claims and their reports are stated in
`RegionLoadRechecksWaitingUnits`. The entry a staged record spells is read from RSTART, REND, RKIND and RATTR by their
layout (R23, 11.8); a record that meets the checks of R24 spells one. -/
def Obligations.RegionLoadTaken : Prop :=
  (∀ (data : Byte) (s : State) (r : Fin 4) (e : RegionEntry), s.busQuiet → data.toNat = r.val →
    s.rgd.staging.entry = some e →
    (e.enable = true → ∀ q, q ≠ r → (s.rgd.regions.get q).enable = true →
      e.shares (s.rgd.regions.get q) = false) →
    let changed : Prop := (s.rgd.regions.get r).isDynamic = true ∧ e ≠ s.rgd.regions.get r
    let gate : Prop := s.rpc.rfint ≠ 0 ∧
      (s.rpc.portState = .running ∨ s.rpc.portState = .draining ∧ s.rpc.parkStep = false)
    ∃ t, exec (.rload data) s = .next t ∧
      t.win = { s.win with result := .ok } ∧ t.rgd.staging = s.rgd.staging ∧
      t.rgd.regions = s.rgd.regions.set r e ∧
      t.pending = s.pending ∧ t.pbi = s.released.pbi ∧ t.wtu = s.wtu ∧ t.parb = s.parb ∧ t.clog = s.clog ∧
      t.iru = s.iru ∧ t.mseq.extension = s.mseq.extension ∧ t.mseq.ma = s.mseq.ma ∧
      t.mseq.op = s.mseq.op.map (fun o => { o with work := o.work.mapAccess (fun a =>
        if changed ∧ a.region = r then { a with staleMark := true } else a) }) ∧
      t.mseq.record = (s.mseq.record.map (fun row =>
        if changed ∧ row.region = r ∧ row.stale = none then
          { row with stale := some (s.rgd.regions.get r).rowPenalty.toNat }
        else row)) ∧
      t.rpc =
        (if anyDynamic s.rgd.regions = true ∧ anyDynamic t.rgd.regions = false then
          { s.rpc with debt := 0, timer := none }
        else if anyDynamic s.rgd.regions = false ∧ anyDynamic t.rgd.regions = true then
          { s.rpc with timer := if gate then some (max 16 s.rpc.rfint.toNat) else none }
        else s.rpc)) ∧
  (∀ a b : RegionEntry, a.shares b = true ↔
    a.startFrame.toNat ≤ b.endFrame.toNat ∧ b.startFrame.toNat ≤ a.endFrame.toNat) ∧
  (∀ (f : Access → Access) (a a' : Access) (b : Byte) (n : Fin 4),
    Work.mapAccess f (.processor a b) = .processor (f a) b ∧
    Work.mapAccess f (.unitRead n a a') = .unitRead n (f a) (f a') ∧
    Work.mapAccess f (.unitWrite n a b) = .unitWrite n (f a) b ∧
    ∀ w : Work, w.access = none → w.mapAccess f = w) ∧
  (∀ g : RegionStaging,
    let kind := (g.rkind.extractLsb' 1 2).toNat
    let size := (g.rkind.extractLsb' 3 3).toNat
    let penalty := (g.rattr.extractLsb' 3 3).toNat
    (∀ e, g.entry = some e →
      e.startFrame.toNat = g.rstart.toNat ∧ e.endFrame.toNat = g.rend.toNat ∧ e.enable = g.rkind.getLsbD 0 ∧
      (kind, e.kind) ∈ [(0, RegionKind.static), (1, .dynamic)] ∧
      (size, e.rowSize) ∈ [(0, RowSize.b512), (1, .b1024), (2, .b2048), (3, .b4096)] ∧
      e.wait.toNat = g.rattr.toNat % 8 ∧ e.rowPenalty.toNat = penalty ∧
      e.writeProtect = g.rattr.getLsbD 6 ∧ e.readyEnable = g.rattr.getLsbD 7) ∧
    (g.rstart.toNat ≤ g.rend.toNat → g.rend.toNat ≤ 0xFFF → kind ≤ 1 → size ≤ 3 →
      (kind = 1 → 1 ≤ penalty ∧ penalty ≤ 4) → g.entry ≠ none))

/-- A taken RLOAD checks every unit that waits at the arbiter against the new table (R27): one that fails loses its
claim, goes FAULTED and files the report R109 asks for, taken at the tail, or dropped with the overflow flag set where
the log is full (R143); every other channel stays as it was. The order of two or more reports is left open (log 6). -/
def Obligations.RegionLoadRechecksWaitingUnits : Prop :=
  ∀ (data : Byte) (s : State) (r : Fin 4) (e : RegionEntry), s.busQuiet → data.toNat = r.val →
    s.rgd.staging.entry = some e →
    (e.enable = true → ∀ q, q ≠ r → (s.rgd.regions.get q).enable = true →
      e.shares (s.rgd.regions.get q) = false) →
    let report : Fin 4 → Option FaultRecord := s.waitingReport (s.rgd.regions.set r e)
    ∃ t, exec (.rload data) s = .next t ∧
      (∀ n, report n ≠ none → t.chan n = { (s.chan n).release with state := .faulted }) ∧
      (∀ n, report n = none → t.chan n = s.chan n) ∧
      t.txe.staging = s.txe.staging ∧ t.txe.flushn = s.txe.flushn ∧
      ∃ filed : List FaultRecord, filed.Perm (allFour.filterMap report) ∧
        t.flog.records = s.flog.records ++ filed.take (4 - s.flog.records.length) ∧
        t.flog.overflow = (s.flog.overflow || decide (4 - s.flog.records.length < filed.length))

/-- RREAD checks the index and copies the entry into all four staging registers; an RLOAD of the same index that
follows passes and, with the waiting units in order, changes nothing (R30). -/
def Obligations.RegionReadBackReloads : Prop :=
  ∀ (data : Byte) (s : State), s.busQuiet →
    (4 ≤ data.toNat → exec (.rread data) s = .next (s.released.setResult .badIndex)) ∧
    (∀ r : Fin 4, data.toNat = r.val → s.TablesOk →
      ∃ g : RegionStaging,
        exec (.rread data) s = .next
          ({ s.released with rgd := { s.rgd with staging := g } }.setResult .ok) ∧
        g.rstart.toNat = (s.rgd.regions.get r).startFrame.toNat ∧
        g.rend.toNat = (s.rgd.regions.get r).endFrame.toNat ∧
        g.entry = some (s.rgd.regions.get r) ∧
        ((∀ n, s.claimFails n = false) →
          ∀ t, exec (.rread data) s = .next t → exec (.rload data) t = .next t))

/-! ### Processor cycles -/

/-- MEMORY_CYCLE on a quiet bus (R32 to R37): both or neither of RD and WR, and a page no window answers, leave the
cycle PASSIVE; the checks are made in the order rights, region, protection, and a refused cycle files its report,
reads FFh and is released at once; a cycle that passes raises the claim, and in PARKED wakes the port (R39). What the
cycle record holds in PASSIVE is the model's reading (log 27). -/
def Obligations.MemoryCycleIsLookedUpAndChecked : Prop :=
  ∀ (pins : BusPins) (s : State), s.busQuiet →
    let dir : Direction := if pins.rd then .read else .write
    let c : CycleRecord := { dir := dir, logical := pins.addr, physical := none, region := none,
                             writeData := none, readData := none }
    let on : Pbi := { s.pbi with memc := true, readOut := none }
    let refused : FaultKind → PhysAddr → State := fun kind pa =>
      { s.fileFault { source := .processor, kind := kind, dir := dir.fault, logical := some pins.addr,
                      physical := some pa, tag := none } with
        pbi := { on with phase := .ending,
                         cycle := some { c with physical := some pa,
                                                readData := if pins.rd then some 0xFF else none } } }
    (pins.rd = pins.wr →
      exec (.memoryCycle pins) s = .next { s with pbi := { on with phase := .passive, cycle := none } }) ∧
    (pins.rd ≠ pins.wr → windowVerdict s.wtu.windows pins.addr dir = .notClaimed →
      exec (.memoryCycle pins) s = .next { s with pbi := { on with phase := .passive, cycle := some c } }) ∧
    (∀ pa, pins.rd ≠ pins.wr → windowVerdict s.wtu.windows pins.addr dir = .rights pa →
      exec (.memoryCycle pins) s = .next (refused .rights pa)) ∧
    (∀ pa, pins.rd ≠ pins.wr → windowVerdict s.wtu.windows pins.addr dir = .claimed pa →
      (regionOf s.rgd.regions pa = none → exec (.memoryCycle pins) s = .next (refused .unmapped pa)) ∧
      (∀ n, regionOf s.rgd.regions pa = some n →
        (dir = .write → (s.rgd.regions.get n).writeProtect = true →
          exec (.memoryCycle pins) s = .next (refused .protect pa)) ∧
        (dir = .read ∨ (s.rgd.regions.get n).writeProtect = false →
          let waiting : State :=
            { s with pbi := { on with phase := .waiting,
                                      cycle := some { c with physical := some pa, region := some n,
                                                             writeData := if pins.rd then none
                                                               else some pins.data } } }
          (s.rpc.portState ≠ .parked → exec (.memoryCycle pins) s = .next waiting) ∧
          (s.rpc.portState = .parked →
            exec (.memoryCycle pins) s = .next
              ({ waiting with rpc := { s.rpc with portState := .waking, wakeCause := some .processor,
                                                  sref := false } }.startOp
                (.wakeUp (dynamicSelects s.rgd.regions)) .selfRefreshExit)))))

/-- ACCESS_COMPLETE, up to 255 clocks of extension (R67), ends the grant and releases the processor (R40): ENDING with
the byte of a READ while MEMC is active; IDLE directly, the byte dropped, when it went inactive meanwhile, which a cycle
held behind this one also shows (R43; log 8). CYCLE_END ends a cycle in PASSIVE or ENDING (R33, R42), leaves one in
WAITING or ACCESS to be finished as it was begun (R43), or a held one to be served (log 10); with MEMC inactive it ends
a register read (R153; log 19) and changes nothing else (log 3). WHIT, PWAIT and D0 to D7 follow the phase (R31), the
held cycle (R43) and the register read (R153). -/
def Obligations.AccessesCompleteAndCyclesEnd : Prop :=
  (∀ s : State,
    (s.pbi.memc = false → exec .cycleEnd s = .next s.released) ∧
    (s.pbi.memc = true → s.pbi.phase = .passive ∨ s.pbi.phase = .ending →
      exec .cycleEnd s = .next { s with pbi := { s.pbi with phase := .idle, cycle := none, memc := false } }) ∧
    (s.pbi.memc = true → s.pbi.phase = .idle ∨ s.pbi.phase = .waiting ∨ s.pbi.phase = .access →
      exec .cycleEnd s = .next { s with pbi := { s.pbi with memc := false } })) ∧
  (∀ (md : Byte) (s : State) (k : OpKind) (left : Nat) (a : Access) (b : Byte) (c : CycleRecord),
    s.mseq.op = some ⟨k, left, .processor a b⟩ → k = .read ∨ k = .write → s.parb.holder = .processor →
    s.pbi.cycle = some c → s.mseq.extension < 256 →
    exec (.accessComplete md) s = .next
      { s with mseq := { s.mseq with op := none, extension := 0 },
               parb := { s.parb with holder := .none },
               pbi :=
                if s.pbi.memc = true ∧ s.pbi.held = none then
                  { s.pbi with phase := .ending,
                               cycle := some (if c.dir = .read then { c with readData := some md } else c) }
                else { s.pbi with phase := .idle, cycle := none } }) ∧
  (∀ s : State,
    (s.whit = true ↔ s.pbi.phase = .waiting ∨ s.pbi.phase = .access ∨ s.pbi.phase = .ending) ∧
    (s.pwait = true ↔ s.pbi.phase = .waiting ∨ s.pbi.phase = .access ∨ s.pbi.held ≠ none) ∧
    (s.pbi.phase = .idle → s.dataBus = s.pbi.readOut) ∧
    (s.pbi.phase = .passive ∨ s.pbi.phase = .waiting ∨ s.pbi.phase = .access → s.dataBus = none) ∧
    (∀ c, s.pbi.phase = .ending → s.pbi.cycle = some c →
      (c.dir = .read → s.dataBus = c.readData) ∧ (c.dir = .write → s.dataBus = none)))

/-! ### The port: arbitration -/

/-- The grant order under the gate (R49, R50, R85): which claim a decision made now grants. -/
def Obligations.GrantOrderUnderTheGate : Prop :=
  ∀ s : State,
    (s.rpc.portState = .running →
      (1 ≤ s.rpc.debt → s.rpc.rfurg ≤ s.rpc.debt → s.decision = some .refresh) ∧
      (s.rpc.debt = 0 ∨ s.rpc.debt < s.rpc.rfurg →
        (s.pbi.phase = .waiting → s.decision = some .processor) ∧
        (s.pbi.phase ≠ .waiting →
          (∀ n, s.chosenChannel = some n → s.decision = some (.channel n)) ∧
          (s.chosenChannel = none → 1 ≤ s.rpc.debt → s.decision = some .refresh) ∧
          (s.chosenChannel = none → s.rpc.debt = 0 → s.decision = none)))) ∧
    (s.rpc.portState = .draining →
      (s.rpc.parkStep = true → s.decision = none) ∧
      (s.rpc.parkStep = false →
        (1 ≤ s.rpc.debt → s.decision = some .refresh) ∧
        (s.rpc.debt = 0 → s.pbi.phase = .waiting → s.decision = some .processor) ∧
        (s.rpc.debt = 0 → s.pbi.phase ≠ .waiting → s.decision = none))) ∧
    (s.rpc.portState = .parked ∨ s.rpc.portState = .waking → s.decision = none)

/-- The channel order (R51): the lowest-numbered claim in FIXED mode; in ROTATING mode the first claim counted from
the channel after the rotation pointer; and some channel whenever a claim stands. A channel claims exactly while its
port request is a claim (R47). ARBMODE_WRITE stores bit 0 as the mode and changes nothing else: not the rotation
pointer, not a grant (R57, R160). -/
def Obligations.ArbmodeSetsTheChannelOrder : Prop :=
  (∀ s : State,
    (s.chosenChannel = none ↔ ∀ n, (s.chan n).claims = false) ∧
    (∀ n, s.chosenChannel = some n →
      (s.chan n).claims = true ∧
      (s.parb.mode = .fixed → ∀ m < n, (s.chan m).claims = false) ∧
      (s.parb.mode = .rotating → ∀ m, s.parb.turn m < s.parb.turn n → (s.chan m).claims = false))) ∧
  (∀ c : Channel, c.claims = true ↔ ∃ limit, c.port = .claim limit) ∧
  (∀ (data : Byte) (s : State), s.busQuiet →
    ∃ mode, exec (.arbmodeWrite data) s = .next { s.released with parb := { s.parb with mode := mode } } ∧
      (mode = .rotating ↔ data.toNat % 2 = 1) ∧
      (∀ t, exec (.arbmodeWrite data) s = .next t → t.readRegister 0x4C = data &&& 1))

/-- PORT_GRANT with the port busy or no claim that passes the gate changes nothing (R48); else it hands the port to
the claimant the decision names, with its first operation (R40, R52, R69, R110, R117). The pin TAKn is the channel's,
and TEND is asserted while any channel asserts it (R117). -/
def Obligations.PortGrantHandsOverThePort : Prop :=
  ∀ s : State,
    (s.parb.holder ≠ .none ∨ s.decision = none → exec .portGrant s = .next s) ∧
    (s.parb.holder = .none → s.decision = some .refresh →
      exec .portGrant s = .next
        ({ s with parb := { s.parb with holder := .refresh } }.startOp (.refresh (dynamicSelects s.rgd.regions))
          (match s.mseq.record with
            | some row => .rowClose row (closePenalty s.rgd.regions row)
            | none => .refresh))) ∧
    (∀ c pa r, s.parb.holder = .none → s.decision = some .processor → s.pbi.cycle = some c →
      c.physical = some pa → c.region = some r →
      let a : Access := { dir := c.dir, addr := pa, region := r, entry := s.rgd.regions.get r, staleMark := false }
      exec .portGrant s = .next
        ({ s with parb := { s.parb with holder := .processor }, pbi := { s.pbi with phase := .access } }.startOp
          (.processor a (c.writeData.getD 0)) (nextForAccess s.rgd.regions s.mseq.record a))) ∧
    (∀ n limit d rest m k, s.parb.holder = .none → s.decision = some (.channel n) →
      (s.chan n).port = .claim limit → (s.chan n).queue = d :: rest →
      unitVerdict s.rgd.regions d.curSrc d.curDst = .pass m k →
      let src : Access := { dir := .read, addr := d.curSrc, region := m, entry := s.rgd.regions.get m,
                            staleMark := false }
      let dst : Access := { dir := .write, addr := d.curDst, region := k, entry := s.rgd.regions.get k,
                            staleMark := false }
      exec .portGrant s = .next
        (({ s with parb := { s.parb with holder := .channel n, pointer := n } }.setChan n
          { s.chan n with
              port := .grant limit 0,
              latch := (s.chan n).latch && !(d.pacing == Pacing.paced && (s.chan n).inUse.sense == Sense.edge),
              tak := d.pacing == Pacing.paced }).startOp
          (.unitRead n src dst) (nextForAccess s.rgd.regions s.mseq.record src))) ∧
    (∀ n, s.takPin n = (s.chan n).tak) ∧
    (s.tendPin = true ↔ ∃ n, (s.chan n).tend = true)

/-! ### The port: operations -/

/-- The row decision (R60, R66): a stale row is closed first whatever the access; a STATIC access goes straight to its
READ or WRITE; a DYNAMIC one is a hit, an open, or a close first. An operation that begins takes the clocks of R59
from the entry captured at its grant, drives its address, and starts with the extension count at 0; every other block
stays as it was, and the row record but for SELF_REFRESH_ENTER, which begins with it absent (R64, R70). While it lasts
it drives MRD, MWR, MD0 to MD7 and RSEL0 to RSEL3 by the table of R59 (R22, R62), SELF_REFRESH_EXIT its selects in its
first 4 clocks alone; all are at rest while MSEQ is idle. The selects of every enabled DYNAMIC region are what the
work of a REFRESH or of a self-refresh operation captures, and `anyDynamic` is that at least one such region exists
(R16). The close penalty is the one kept with a stale row, else the row penalty of the region named (R65). -/
def Obligations.OperationsAndClocksOfAnAccess : Prop :=
  (∀ (t : Quad RegionEntry) (a : Access),
    let main : OpKind := match a.dir with | .read => .read | .write => .write
    (∀ row p, row.stale = some p → nextForAccess t (some row) a = .rowClose row p) ∧
    (a.entry.kind = .static →
      nextForAccess t none a = main ∧ (∀ row, row.stale = none → nextForAccess t (some row) a = main)) ∧
    (a.entry.kind = .dynamic →
      nextForAccess t none a = .rowOpen ∧
      (∀ row, row.stale = none → row.region = a.region → row.row = a.entry.rowOf a.addr →
        nextForAccess t (some row) a = main) ∧
      (∀ row, row.stale = none → row.region ≠ a.region ∨ row.row ≠ a.entry.rowOf a.addr →
        nextForAccess t (some row) a = .rowClose row (t.get row.region).rowPenalty.toNat))) ∧
  (∀ (s : State) (w : Work) (k : OpKind),
    ∃ (left : Nat) (ma : Option PhysAddr),
      s.startOp w k = { s with mseq :=
        { op := some { kind := k, left := left, work := w },
          record := if k = .selfRefreshEnter then none else s.mseq.record, extension := 0, ma := ma } } ∧
      (∀ a, w.access = some a → k = .read ∨ k = .write →
        left = 2 + a.entry.wait.toNat ∧ ma = some a.addr) ∧
      (∀ a, w.access = some a → k = .rowOpen →
        left = a.entry.rowPenalty.toNat ∧ ma = some (a.entry.rowStart (a.entry.rowOf a.addr))) ∧
      (∀ row p, k = .rowClose row p → left = p ∧ ma = some row.addr) ∧
      (k = .refresh → left = 6 ∧ ma = s.mseq.ma) ∧
      (k = .selfRefreshEnter → left = 4 ∧ ma = s.mseq.ma) ∧
      (k = .selfRefreshExit → left = 128 ∧ ma = s.mseq.ma)) ∧
  (∀ s : State,
    (s.mseq.op = none → s.mrd = false ∧ s.mwr = false ∧ s.mdOut = none ∧ ∀ n, s.rsel n = false) ∧
    (∀ o, s.mseq.op = some o →
      (s.mrd = true ↔ o.kind = .read) ∧ (s.mwr = true ↔ o.kind = .write) ∧
      (o.kind ≠ .write → s.mdOut = none) ∧
      (∀ a b, o.kind = .write → o.work = .processor a b → s.mdOut = some b) ∧
      (∀ n a b, o.kind = .write → o.work = .unitWrite n a b → s.mdOut = some b) ∧
      (∀ a n, o.kind = .read ∨ o.kind = .write ∨ o.kind = .rowOpen → o.work.access = some a →
        s.rsel n = decide (n = a.region)) ∧
      (∀ row p n, o.kind = .rowClose row p → s.rsel n = decide (n = row.region)) ∧
      (∀ sel n, o.kind = .refresh → o.work = .refresh sel → s.rsel n = sel.get n) ∧
      (∀ sel n, o.kind = .selfRefreshEnter → o.work = .enter sel → s.rsel n = sel.get n) ∧
      (∀ sel n, o.kind = .selfRefreshExit → o.work = .wakeUp sel →
        s.rsel n = (sel.get n && decide (124 < o.left))))) ∧
  (∀ (a a' : Access) (b : Byte) (n : Fin 4) (sel : Quad Bool),
    (Work.processor a b).access = some a ∧ (Work.unitRead n a a').access = some a ∧
    (Work.unitWrite n a b).access = some a ∧ (Work.refresh sel).access = none ∧ (Work.enter sel).access = none ∧
    Work.parkClose.access = none ∧ (Work.wakeUp sel).access = none ∧ Work.timeoutClose.access = none) ∧
  (∀ (t : Quad RegionEntry) (row : OpenRow),
    (∀ p, row.stale = some p → closePenalty t row = p) ∧
    (row.stale = none → closePenalty t row = (t.get row.region).rowPenalty.toNat)) ∧
  (∀ e : RegionEntry, e.isDynamic = true ↔ e.enable = true ∧ e.kind = .dynamic) ∧
  (∀ (t : Quad RegionEntry) (n : Fin 4),
    (dynamicSelects t).get n = true ↔ (t.get n).enable = true ∧ (t.get n).kind = .dynamic) ∧
  (∀ t : Quad RegionEntry, anyDynamic t = true ↔ ∃ n, (dynamicSelects t).get n = true)

/-- The operations inside a grant. UNIT_READ_COMPLETE: the byte is held and the WRITE half begins under the same grant,
by the row decision; TEND goes with the final unit of an end-signal head (R63, R117). ROW_OPEN and ROW_CLOSE complete:
the record names the opened row, stale where a load marked the region during the grant, or is absent; then the next
operation of the same work begins (the access's own READ or WRITE even behind a row marked stale: log 11), or under
RESIDUAL the grant ends (R55, R64, R65, R66, R73; that either command does this as RESIDUAL_END does is log 25). -/
def Obligations.OperationsFollowInsideAGrant : Prop :=
  (∀ (md : Byte) (s : State) (left : Nat) (n : Fin 4) (src dst : Access) (d : Descriptor) (rest : List Descriptor),
    s.mseq.op = some ⟨.read, left, .unitRead n src dst⟩ → s.parb.holder = .channel n →
    (s.chan n).queue = d :: rest → s.mseq.extension < 256 →
    exec (.unitReadComplete md) s = .next
      ((s.setChan n { s.chan n with tend := d.endSignal && (d.remaining == 1) }).startOp
        (.unitWrite n dst md) (nextForAccess s.rgd.regions s.mseq.record dst))) ∧
  (∀ (s : State) (left : Nat) (w : Work),
    (∀ a, s.mseq.op = some ⟨.rowOpen, left, w⟩ → w.access = some a →
      let row : OpenRow :=
        { region := a.region, row := a.entry.rowOf a.addr, addr := a.entry.rowStart (a.entry.rowOf a.addr),
          stale := if a.staleMark then some a.entry.rowPenalty.toNat else none }
      let opened : State := { s with mseq := { s.mseq with record := some row } }
      (s.parb.holder = .residual →
        exec .rowOpen s = .next { s with mseq := { s.mseq with op := none, record := some row, extension := 0 },
                                         parb := { s.parb with holder := .none } }) ∧
      (s.parb.holder ≠ .residual →
        exec .rowOpen s = .next
          (opened.startOp w (match a.dir with | .read => .read | .write => .write)))) ∧
    (∀ row p, s.mseq.op = some ⟨.rowClose row p, left, w⟩ →
      let closed : State := { s with mseq := { s.mseq with record := none } }
      (s.parb.holder = .residual →
        exec .rowClose s = .next { s with mseq := { s.mseq with op := none, record := none, extension := 0 },
                                          parb := { s.parb with holder := .none } }) ∧
      (s.parb.holder ≠ .residual →
        (∀ a, w.access = some a →
          exec .rowClose s = .next (closed.startOp w (nextForAccess s.rgd.regions none a))) ∧
        (∀ sel, w = .refresh sel → exec .rowClose s = .next (closed.startOp w .refresh)) ∧
        (∀ sel, w = .enter sel → exec .rowClose s = .next (closed.startOp w .selfRefreshEnter)) ∧
        (w = .parkClose → exec .rowClose s = .next closed.enterParked))))

/-- TIMEOUT (R41, R68, R111, R125). The requester is told first: a processor access files its report, reads FFh and is
released; a unit files its report with the half that timed out and is not counted, and then a pending flush takes effect
or the channel goes FAULTED with hold pending cleared. The record is cleared, and a row that was open is closed under
RESIDUAL, else the port is free. Under RESIDUAL no report is made and the rest is the same (R73). -/
def Obligations.TimeoutTellsTheRequesterThenClosesTheRow : Prop :=
  (∀ (s : State) (k : OpKind) (left : Nat) (a : Access) (b : Byte) (c : CycleRecord),
    s.mseq.op = some ⟨k, left, .processor a b⟩ → k = .read ∨ k = .write → a.entry.readyEnable = true →
    s.parb.holder = .processor → s.pbi.cycle = some c →
    let told : State :=
      { s.fileFault { source := .processor, kind := .timeout, dir := c.dir.fault, logical := some c.logical,
                      physical := c.physical, tag := none } with
        mseq := { s.mseq with record := none },
        pbi :=
          if s.pbi.memc = true ∧ s.pbi.held = none then
            { s.pbi with phase := .ending,
                         cycle := some (if c.dir = .read then { c with readData := some 0xFF } else c) }
          else { s.pbi with phase := .idle, cycle := none } }
    (∀ row, s.mseq.record = some row →
      exec .timeout s = .next ({ told with parb := { s.parb with holder := .residual } }.startOp .timeoutClose
        (.rowClose row (closePenalty s.rgd.regions row)))) ∧
    (s.mseq.record = none →
      exec .timeout s = .next { told with mseq := { told.mseq with op := none, extension := 0 },
                                          parb := { s.parb with holder := .none } })) ∧
  (∀ (s : State) (k : OpKind) (left : Nat) (w : Work) (a : Access) (n : Fin 4) (d : Descriptor)
      (rest : List Descriptor),
    s.mseq.op = some ⟨k, left, w⟩ → k = .read ∨ k = .write → w.access = some a → a.entry.readyEnable = true →
    s.parb.holder = .channel n → (s.chan n).queue = d :: rest →
    let filed := s.fileFault { source := .channel n, kind := .timeout, dir := a.dir.fault, logical := none,
                               physical := some a.addr, tag := some d.tag }
    let told : State :=
      if (s.chan n).flushPending then
        let u := filed.setChan n (s.chan n).flushed
        { u with txe := { u.txe with flushn := rest.length + 1 } }
      else filed.setChan n { (s.chan n).release with state := .faulted, holdPending := false }
    (∀ row, s.mseq.record = some row →
      exec .timeout s = .next
        ({ told with mseq := { s.mseq with record := none },
                     parb := { s.parb with holder := .residual } }.startOp .timeoutClose
          (.rowClose row (closePenalty s.rgd.regions row)))) ∧
    (s.mseq.record = none →
      exec .timeout s = .next { told with mseq := { s.mseq with op := none, record := none, extension := 0 },
                                          parb := { s.parb with holder := .none } })) ∧
  (∀ (s : State) (k : OpKind) (left : Nat) (w : Work) (a : Access),
    s.mseq.op = some ⟨k, left, w⟩ → k = .read ∨ k = .write → w.access = some a → a.entry.readyEnable = true →
    s.parb.holder = .residual →
    (∀ row, s.mseq.record = some row →
      exec .timeout s = .next
        (({ s with mseq := { s.mseq with record := none } } : State).startOp .timeoutClose
          (.rowClose row (closePenalty s.rgd.regions row)))) ∧
    (s.mseq.record = none →
      exec .timeout s = .next { s with mseq := { s.mseq with op := none, extension := 0 },
                                       parb := { s.parb with holder := .none } })) ∧
  (Direction.read.fault = .read ∧ Direction.write.fault = .write)

/-- RESIDUAL_END (R55, R73), for a READ or WRITE up to 255 clocks of extension (R67): the operation left to finish has
its effect on the row record, reports to no one, and the port is free. -/
def Obligations.ResidualEndFreesThePort : Prop :=
  ∀ (s : State) (o : Operation), s.mseq.op = some o → s.parb.holder = .residual → s.mseq.extension < 256 →
    ∃ rec, exec .residualEnd s = .next { s with mseq := { s.mseq with op := none, record := rec, extension := 0 },
                                                parb := { s.parb with holder := .none } } ∧
      (o.kind = .read ∨ o.kind = .write → rec = s.mseq.record) ∧
      (∀ row p, o.kind = .rowClose row p → rec = none) ∧
      (∀ a, o.kind = .rowOpen → o.work.access = some a →
        ∃ row, rec = some row ∧ row.region = a.region ∧ row.row = a.entry.rowOf a.addr ∧
          row.stale = if a.staleMark then some a.entry.rowPenalty.toNat else none)

/-- A command that reports the end of an operation changes nothing where no such operation is in progress (log 3), nor
one that reports the end of a READ or WRITE where the extension count is 256: that access ends as TIMEOUT alone
(R67). -/
def Obligations.CompletionsNotDueChangeNothing : Prop :=
  ∀ (md : Byte) (s : State),
    (s.mseq.op = none →
      exec (.accessComplete md) s = .next s ∧ exec (.unitReadComplete md) s = .next s ∧
      exec .unitComplete s = .next s ∧ exec .rowOpen s = .next s ∧ exec .rowClose s = .next s ∧
      exec .timeout s = .next s ∧ exec .residualEnd s = .next s ∧ exec .refresh s = .next s ∧
      exec .selfRefreshEnter s = .next s ∧ exec .selfRefreshExit s = .next s) ∧
    (256 ≤ s.mseq.extension →
      exec (.accessComplete md) s = .next s ∧ exec (.unitReadComplete md) s = .next s ∧
      exec .unitComplete s = .next s ∧ exec .residualEnd s = .next s)

/-! ### Refresh, parking and waking -/

/-- The debt (R69, R76, R78, R79, R81). REFRESH completes: the debt falls by one, not below 0, and the port is free in
the same event. INTERVAL_TIMER_EXPIRY: the timer reloads with a full interval; the debt rises below 8, and at 8 the
expiry sets LOST; a stopped timer has no expiry. PORTSTAT reads the port state and the debt as they stand, the park step
as DRAINING (R89, 11.8). -/
def Obligations.ExpiriesRaiseAndRefreshesPayTheDebt : Prop :=
  (∀ (s : State) (left : Nat) (w : Work), s.mseq.op = some ⟨.refresh, left, w⟩ → s.parb.holder = .refresh →
    exec .refresh s = .next
      { s with mseq := { s.mseq with op := none, extension := 0 }, parb := { s.parb with holder := .none },
               rpc := { s.rpc with debt := s.rpc.debt - 1 } }) ∧
  (∀ s : State,
    (s.rpc.timer = none → exec .intervalTimerExpiry s = .next s) ∧
    (∀ k, s.rpc.timer = some k →
      let full : Option Nat := if s.rpc.rfint = 0 then none else some (max 16 s.rpc.rfint.toNat)
      (s.rpc.debt < 8 → exec .intervalTimerExpiry s =
        .next { s with rpc := { s.rpc with timer := full, debt := s.rpc.debt + 1 } }) ∧
      (8 ≤ s.rpc.debt → exec .intervalTimerExpiry s =
        .next { s with rpc := { s.rpc with timer := full }, iru := { s.iru with lost := true } }))) ∧
  (∀ s : State, s.rpc.debt ≤ 8 →
    (s.rpc.portState = .running → (s.readRegister 0x47).toNat = s.rpc.debt) ∧
    (s.rpc.portState = .draining → (s.readRegister 0x47).toNat = 16 + s.rpc.debt) ∧
    (s.rpc.portState = .parked → (s.readRegister 0x47).toNat = 32 + s.rpc.debt) ∧
    (s.rpc.portState = .waking → (s.readRegister 0x47).toNat = 48 + s.rpc.debt))

/-- RFINT_WRITE stores one byte of RFINT, the high one by its low four bits, and restarts the timer with the new
value, or stops it, by the three conditions (R76, R77). RFINT reads back as stored, low byte first (R76). -/
def Obligations.RfintWriteRestartsTheTimer : Prop :=
  (∀ (high : Bool) (data : Byte) (s : State), s.busQuiet →
    ∃ v : BitVec 12,
      exec (.rfintWrite high data) s = .next { s.released with rpc := { s.rpc with
        rfint := v,
        timer :=
          if v ≠ 0 ∧ anyDynamic s.rgd.regions = true ∧
              (s.rpc.portState = .running ∨ s.rpc.portState = .draining ∧ s.rpc.parkStep = false) then
            some (max 16 v.toNat)
          else none } } ∧
      (high = false → v.toNat = 256 * (s.rpc.rfint.toNat / 256) + data.toNat) ∧
      (high = true → v.toNat = 256 * (data.toNat % 16) + s.rpc.rfint.toNat % 256)) ∧
  (∀ u : State,
    (u.readRegister 0x44).toNat = u.rpc.rfint.toNat % 256 ∧ (u.readRegister 0x45).toNat = u.rpc.rfint.toNat / 256)

/-- RFURG_WRITE stores 1 to 8 and ignores any other value; the priority of the refresh claim is read from it at each
use: in RUNNING URGENT at or above it, in DRAINING always (R80). -/
def Obligations.RfurgWriteSetsTheThreshold : Prop :=
  ∀ (data : Byte) (s : State), s.busQuiet →
    (1 ≤ data.toNat → data.toNat ≤ 8 →
      exec (.rfurgWrite data) s = .next { s.released with rpc := { s.rpc with rfurg := data.toNat } } ∧
      ∀ t, exec (.rfurgWrite data) s = .next t → t.readRegister 0x46 = data) ∧
    (data.toNat = 0 ∨ 8 < data.toNat → exec (.rfurgWrite data) s = .next s.released) ∧
    (∀ u : State,
      (u.rpc.portState = .running → (u.refreshUrgent = true ↔ u.rpc.rfurg ≤ u.rpc.debt)) ∧
      (u.rpc.portState = .draining → u.refreshUrgent = true))

/-- PARK is decided by the port state (R83): taken in RUNNING, where it changes nothing but the port state and RESULT
and, when the port is free with debt 0, begins the park step straight away, as PARK_STEP would; refused with BAD_STATE
in DRAINING and PARKED and with BUSY in WAKING, changing only RESULT. -/
def Obligations.ParkIsDecidedByThePortState : Prop :=
  ∀ (data : Byte) (s : State), s.busQuiet →
    let draining : State := { s.released.setResult .ok with rpc := { s.rpc with portState := .draining } }
    (s.rpc.portState = .running → s.rpc.parkStep = false → s.parb.holder = .none → s.rpc.debt = 0 →
      exec (.park data) s = .next draining.beginParkStep ∧
        exec .parkStep draining = .next draining.beginParkStep) ∧
    (s.rpc.portState = .running → s.parb.holder ≠ .none ∨ 1 ≤ s.rpc.debt →
      exec (.park data) s = .next draining) ∧
    (s.rpc.portState = .draining ∨ s.rpc.portState = .parked →
      exec (.park data) s = .next (s.released.setResult .badState)) ∧
    (s.rpc.portState = .waking → exec (.park data) s = .next (s.released.setResult .busy))

/-- PARK_STEP (R85): begun only in DRAINING with the port free, the debt 0 and no PROCESSOR claim. The timer stops;
then SELF_REFRESH_ENTER behind the close of a stale row, that close alone with no enabled DYNAMIC region, or PARKED
at once. That the command changes nothing where it is not due is log 3; that the selects, and whether a
SELF_REFRESH_ENTER comes at all, are settled at the start of the step, before a stale close, is log 13. -/
def Obligations.ParkStepLeadsToParked : Prop :=
  ∀ s : State,
    let begun : State := { s with rpc := { s.rpc with parkStep := true, timer := none } }
    (s.parkStepDue = true ↔ s.rpc.portState = .draining ∧ s.rpc.parkStep = false ∧ s.parb.holder = .none ∧
      s.rpc.debt = 0 ∧ s.pbi.phase ≠ .waiting) ∧
    (s.parkStepDue = false → exec .parkStep s = .next s) ∧
    (s.parkStepDue = true → anyDynamic s.rgd.regions = true →
      (∀ row p, s.mseq.record = some row → row.stale = some p →
        exec .parkStep s = .next (begun.startOp (.enter (dynamicSelects s.rgd.regions)) (.rowClose row p))) ∧
      (s.mseq.record.bind OpenRow.stale = none →
        exec .parkStep s = .next (begun.startOp (.enter (dynamicSelects s.rgd.regions)) .selfRefreshEnter))) ∧
    (s.parkStepDue = true → anyDynamic s.rgd.regions = false →
      (∀ row p, s.mseq.record = some row → row.stale = some p →
        exec .parkStep s = .next (begun.startOp .parkClose (.rowClose row p))) ∧
      (s.mseq.record.bind OpenRow.stale = none →
        exec .parkStep s = .next
          { s with mseq := { s.mseq with op := none, extension := 0 },
                   rpc := { s.rpc with portState := .parked, parkStep := false, timer := none, sref := true },
                   iru := { s.iru with port := true } }))

/-- SELF_REFRESH_ENTER completes (R70, R85): PARKED, SREF asserted and PORT set in one event; a PROCESSOR claim that
stands then begins the automatic wake (R39), all in that event, so that SREF is never seen asserted (log 31). A park
step that ends with the close of a stale row ends in the same way (`enterParked`). SELF_REFRESH_EXIT completes (R88):
RUNNING, the timer started by its conditions, PORT set for cause STROBE only, the cause none again. -/
def Obligations.SelfRefreshOperationsMoveThePort : Prop :=
  ∀ (s : State) (left : Nat) (w : Work),
    (s.mseq.op = some ⟨.selfRefreshEnter, left, w⟩ → s.rpc.parkStep = true →
      (s.pbi.phase ≠ .waiting →
        exec .selfRefreshEnter s = .next
          { s with mseq := { s.mseq with op := none, extension := 0 },
                   rpc := { s.rpc with portState := .parked, parkStep := false, sref := true },
                   iru := { s.iru with port := true } }) ∧
      (s.pbi.phase = .waiting →
        exec .selfRefreshEnter s = .next
          ({ s with rpc := { s.rpc with portState := .waking, parkStep := false, wakeCause := some .processor,
                                        sref := false },
                    iru := { s.iru with port := true } }.startOp (.wakeUp (dynamicSelects s.rgd.regions))
            .selfRefreshExit))) ∧
    (s.mseq.op = some ⟨.selfRefreshExit, left, w⟩ → s.rpc.portState = .waking →
      exec .selfRefreshExit s = .next
        { s with mseq := { s.mseq with op := none, extension := 0 },
                 rpc := { s.rpc with portState := .running, wakeCause := none,
                                     timer := if s.rpc.rfint ≠ 0 ∧ anyDynamic s.rgd.regions = true then
                                         some (max 16 s.rpc.rfint.toNat) else none },
                 iru := { s.iru with port := s.iru.port || decide (s.rpc.wakeCause = some .strobe) } }) ∧
    (s.pbi.phase ≠ .waiting →
      s.enterParked =
        { s with mseq := { s.mseq with op := none, extension := 0 },
                 rpc := { s.rpc with portState := .parked, parkStep := false, sref := true },
                 iru := { s.iru with port := true } }) ∧
    (s.pbi.phase = .waiting →
      s.enterParked =
        ({ s with rpc := { s.rpc with portState := .waking, parkStep := false, wakeCause := some .processor,
                                      sref := false },
                  iru := { s.iru with port := true } }.startOp (.wakeUp (dynamicSelects s.rgd.regions))
          .selfRefreshExit))

/-- WAKE is decided by the port state (R87): taken in PARKED, where the port enters WAKING with cause STROBE; refused
with BUSY in DRAINING and BAD_STATE in RUNNING and WAKING, changing only RESULT; so a wake begun by the processor
keeps its cause and leaves PORT as it stands when it completes. -/
def Obligations.WakeIsDecidedByThePortState : Prop :=
  ∀ (data : Byte) (s : State), s.busQuiet →
    (s.rpc.portState = .parked →
      exec (.wake data) s = .next
        ({ s.released.setResult .ok with
            rpc := { s.rpc with portState := .waking, wakeCause := some .strobe, sref := false } }.startOp
          (.wakeUp (dynamicSelects s.rgd.regions)) .selfRefreshExit)) ∧
    (s.rpc.portState = .draining → exec (.wake data) s = .next (s.released.setResult .busy)) ∧
    (s.rpc.portState = .running ∨ s.rpc.portState = .waking →
      exec (.wake data) s = .next (s.released.setResult .badState)) ∧
    (s.rpc.portState = .waking → s.rpc.wakeCause = some .processor →
      ∀ t u, exec (.wake data) s = .next t → exec .selfRefreshExit t = .next u → u.iru.port = s.iru.port)

/-! ### Channels -/

/-- ENQ checks the index, the record and the room, in that order, and then the descriptor joins the tail; a READY
channel goes BUSY and its unit is checked (R95, R96). The record it joins with is the staged one (R94): none with a
count of 0 or a step code 3, else its fields by the layout of DMODE. -/
def Obligations.EnqChecksThenJoinsTheTail : Prop :=
  (∀ (data : Byte) (s : State), s.busQuiet →
    (4 ≤ data.toNat → exec (.enq data) s = .next (s.released.setResult .badIndex)) ∧
    (∀ n : Fin 4, data.toNat = n.val →
      (s.txe.staging.descriptor = none → exec (.enq data) s = .next (s.released.setResult .badRecord)) ∧
      (∀ d, s.txe.staging.descriptor = some d →
        (8 ≤ (s.chan n).queue.length → exec (.enq data) s = .next (s.released.setResult .full)) ∧
        ((s.chan n).queue.length < 8 → (s.chan n).state ≠ .ready →
          exec (.enq data) s = .next
            ((s.released.setResult .ok).setChan n { s.chan n with queue := (s.chan n).queue ++ [d] })) ∧
        ((s.chan n).queue.length < 8 → (s.chan n).state = .ready →
          exec (.enq data) s = .next
            (((s.released.setResult .ok).setChan n
              { s.chan n with queue := (s.chan n).queue ++ [d], state := .busy }).checkUnit n))))) ∧
  (∀ g : DescStaging,
    (g.descriptor = none ↔
      g.dcnt = 0 ∨ (g.dmode.extractLsb' 0 2).toNat = 3 ∨ (g.dmode.extractLsb' 2 2).toNat = 3) ∧
    (∀ d, g.descriptor = some d →
      d.curSrc = g.dsrc ∧ d.curDst = g.ddst ∧ d.remaining = g.dcnt ∧ d.tag = g.dtag ∧
      (d.pacing = .paced ↔ g.dmode.getLsbD 4 = true) ∧ d.notify = g.dmode.getLsbD 5 ∧
      d.stopAfter = g.dmode.getLsbD 6 ∧ d.endSignal = g.dmode.getLsbD 7 ∧
      ((g.dmode.extractLsb' 0 2).toNat = 0 ↔ d.srcStep = .inc) ∧
      ((g.dmode.extractLsb' 0 2).toNat = 1 ↔ d.srcStep = .dec) ∧
      ((g.dmode.extractLsb' 2 2).toNat = 0 ↔ d.dstStep = .inc) ∧
      ((g.dmode.extractLsb' 2 2).toNat = 1 ↔ d.dstStep = .dec)))

/-- The check of R108 and its failure of R109: nothing unless the channel is BUSY without claim or grant and its
pacing condition holds; then the claim is raised, with the burst limit for a FREE head, or the report is filed and
the channel is FAULTED. The source is judged first (R21). The verdict of a unit passes on those terms; a report is taken
at the tail of the Fault Log, or dropped with the overflow flag set where the log is full (R143); an update of a channel
reaches that channel alone. -/
def Obligations.UnitCheckClaimsOrFaults : Prop :=
  (∀ (s : State) (n : Fin 4) (d : Descriptor) (rest : List Descriptor), (s.chan n).queue = d :: rest →
    let fails : FaultKind → FaultDir → PhysAddr → State := fun kind dir addr =>
      (s.fileFault { source := .channel n, kind := kind, dir := dir, logical := none, physical := some addr,
                     tag := some d.tag }).setChan n { (s.chan n).release with state := .faulted }
    ((s.chan n).state ≠ .busy ∨ (s.chan n).port ≠ .none ∨
        (d.pacing = .paced ∧ (s.chan n).inUse.sense = .edge ∧ (s.chan n).latch = false) ∨
        (d.pacing = .paced ∧ (s.chan n).inUse.sense = .level ∧ (s.chan n).trq = false) →
      s.checkUnit n = s) ∧
    ((s.chan n).state = .busy → (s.chan n).port = .none →
        (d.pacing = .free ∨ ((s.chan n).inUse.sense = .edge ∧ (s.chan n).latch = true) ∨
          ((s.chan n).inUse.sense = .level ∧ (s.chan n).trq = true)) →
      (regionOf s.rgd.regions d.curSrc = none → s.checkUnit n = fails .unmapped .read d.curSrc) ∧
      (∀ m, regionOf s.rgd.regions d.curSrc = some m →
        (regionOf s.rgd.regions d.curDst = none → s.checkUnit n = fails .unmapped .write d.curDst) ∧
        (∀ k, regionOf s.rgd.regions d.curDst = some k →
          ((s.rgd.regions.get k).writeProtect = true → s.checkUnit n = fails .protect .write d.curDst) ∧
          ((s.rgd.regions.get k).writeProtect = false →
            s.checkUnit n = s.setChan n { s.chan n with
              port := .claim (if d.pacing = .free then some (s.chan n).inUse.burst else none) }))))) ∧
  (∀ (t : Quad RegionEntry) (a b : PhysAddr) (m k : Fin 4),
    unitVerdict t a b = .pass m k ↔
      regionOf t a = some m ∧ regionOf t b = some k ∧ (t.get k).writeProtect = false) ∧
  (∀ (s : State) (report : FaultRecord),
    (s.flog.records.length < 4 →
      s.fileFault report = { s with flog := { s.flog with records := s.flog.records ++ [report] } }) ∧
    (4 ≤ s.flog.records.length → s.fileFault report = { s with flog := { s.flog with overflow := true } })) ∧
  (∀ (s : State) (n m : Fin 4) (c : Channel),
    s.setChan n c = { s with txe := { s.txe with chans := (s.setChan n c).txe.chans } } ∧
    (s.setChan n c).chan m = if m = n then c else s.chan m)

/-- START takes a channel out of OFF, into READY with an empty queue or BUSY with its head checked; in any other
state it is refused with BAD_STATE (R120). -/
def Obligations.StartTakesAChannelOutOfOff : Prop :=
  ∀ (data : Byte) (s : State), s.busQuiet →
    (4 ≤ data.toNat → exec (.start data) s = .next (s.released.setResult .badIndex)) ∧
    (∀ n : Fin 4, data.toNat = n.val →
      ((s.chan n).state ≠ .off → exec (.start data) s = .next (s.released.setResult .badState)) ∧
      ((s.chan n).state = .off → (s.chan n).queue = [] →
        exec (.start data) s = .next ((s.released.setResult .ok).setChan n { s.chan n with state := .ready })) ∧
      ((s.chan n).state = .off → (s.chan n).queue ≠ [] →
        exec (.start data) s = .next
          (((s.released.setResult .ok).setChan n { s.chan n with state := .busy }).checkUnit n)))

/-- HOLD by the channel's state (R121): at once in READY and in BUSY without a grant, pending with a grant and in
POSTING, refused in OFF, HELD and FAULTED. -/
def Obligations.HoldStopsAChannel : Prop :=
  ∀ (data : Byte) (s : State), s.busQuiet →
    (4 ≤ data.toNat → exec (.hold data) s = .next (s.released.setResult .badIndex)) ∧
    (∀ n : Fin 4, data.toNat = n.val →
      let after : Channel → State := fun c => (s.released.setResult .ok).setChan n c
      ((s.chan n).state = .ready → exec (.hold data) s = .next (after { s.chan n with state := .held })) ∧
      ((s.chan n).state = .busy → (s.chan n).granted = false →
        exec (.hold data) s = .next (after { (s.chan n).release with state := .held })) ∧
      ((s.chan n).state = .busy ∧ (s.chan n).granted = true ∨ (s.chan n).state = .posting →
        exec (.hold data) s = .next (after { s.chan n with holdPending := true })) ∧
      ((s.chan n).state = .off ∨ (s.chan n).state = .held ∨ (s.chan n).state = .faulted →
        exec (.hold data) s = .next (s.released.setResult .badState)))

/-- RESUME sets a HELD or FAULTED channel going again with the overrun flag cleared; from FAULTED a PACED head under
EDGE has its latch set; other states refuse it with BAD_STATE (R122). -/
def Obligations.ResumeSetsAChannelGoing : Prop :=
  ∀ (data : Byte) (s : State), s.busQuiet →
    (4 ≤ data.toNat → exec (.resume data) s = .next (s.released.setResult .badIndex)) ∧
    (∀ n : Fin 4, data.toNat = n.val →
      let after : Channel → State := fun c => (s.released.setResult .ok).setChan n c
      ((s.chan n).state = .held → (s.chan n).queue = [] →
        exec (.resume data) s = .next (after { s.chan n with state := .ready, overrun := false })) ∧
      ((s.chan n).state = .held → (s.chan n).queue ≠ [] →
        exec (.resume data) s =
          .next ((after { s.chan n with state := .busy, overrun := false }).checkUnit n)) ∧
      (∀ d rest, (s.chan n).state = .faulted → (s.chan n).queue = d :: rest →
        exec (.resume data) s = .next ((after { s.chan n with
          state := .busy, overrun := false,
          latch := (s.chan n).latch ||
            (d.pacing == Pacing.paced && (s.chan n).inUse.sense == Sense.edge) }).checkUnit n)) ∧
      ((s.chan n).state = .off ∨ (s.chan n).state = .ready ∨ (s.chan n).state = .busy ∨
          (s.chan n).state = .posting →
        exec (.resume data) s = .next (s.released.setResult .badState)))

/-- SKIP abandons the head of a FAULTED channel, or of a HELD one with a queue, with an ABORTED record, taken at once
when the log has room; EMPTY for a HELD channel with an empty queue, BAD_STATE otherwise (R123, R132, R133). -/
def Obligations.SkipOffersAnAbortedRecord : Prop :=
  ∀ (data : Byte) (s : State), s.busQuiet →
    (4 ≤ data.toNat → exec (.skip data) s = .next (s.released.setResult .badIndex)) ∧
    (∀ n : Fin 4, data.toNat = n.val →
      (∀ d rest, (s.chan n).state = .faulted ∨ (s.chan n).state = .held → (s.chan n).queue = d :: rest →
        let posting := (s.released.setResult .ok).setChan n { s.chan n with
          state := .posting,
          offer := some { status := .aborted, tag := d.tag, remaining := d.remaining, notify := d.notify } }
        (s.clog.records.length < 16 → exec (.skip data) s = .next (posting.takeRecord n)) ∧
        (16 ≤ s.clog.records.length → exec (.skip data) s = .next posting)) ∧
      ((s.chan n).state = .held → (s.chan n).queue = [] →
        exec (.skip data) s = .next (s.released.setResult .empty)) ∧
      ((s.chan n).state = .off ∨ (s.chan n).state = .ready ∨ (s.chan n).state = .busy ∨
          (s.chan n).state = .posting →
        exec (.skip data) s = .next (s.released.setResult .badState)))

/-- FLUSH is answered OK in every state: pending while the channel holds the grant, else at once, with the queue
removed, FLUSHN written and the channel OFF with latch, flags and offer cleared (R124). FLUSHN reads, at 11h, the number
removed by the last flush to take effect (R99). And what a channel is after a flush, here and everywhere. -/
def Obligations.FlushClearsAChannel : Prop :=
  (∀ (data : Byte) (s : State), s.busQuiet →
    (4 ≤ data.toNat → exec (.flush data) s = .next (s.released.setResult .badIndex)) ∧
    (∀ n : Fin 4, data.toNat = n.val →
      ((s.chan n).granted = true →
        exec (.flush data) s = .next
          ((s.released.setResult .ok).setChan n { s.chan n with flushPending := true })) ∧
      ((s.chan n).granted = false →
        exec (.flush data) s = .next { s.released.setResult .ok with txe := { s.txe with
          flushn := (s.chan n).queue.length,
          chans := s.txe.chans.set n { s.chan n with
            state := .off, queue := [], latch := false, overrun := false, holdPending := false,
            flushPending := false, port := .none, inUse := (s.chan n).stored, offer := none, tak := false,
            tend := false } } }))) ∧
  (∀ u : State, u.txe.flushn ≤ 8 → (u.readRegister 0x11).toNat = u.txe.flushn) ∧
  (∀ c : Channel,
    (c.granted = true ↔ ∃ limit moved, c.port = .grant limit moved) ∧
    c.flushed = { c with
      state := .off, queue := [], latch := false, overrun := false, holdPending := false, flushPending := false,
      port := .none, inUse := c.stored, offer := none, tak := false, tend := false })

/-- CHCFG_WRITE reaches the channel CHSEL names: a burst limit of 0 or above 16 makes the write ignored; else both
fields are stored, and come into use at once when the channel neither claims nor holds the grant (R103, R104). CHCFG
reads, at 1Dh, the stored configuration of the channel CHSEL names: the sense in bit 7, the limit in bits 4 to 0 (R103,
11.8). That a write waits even behind a claim raised by an edge of the same moment is log 36. -/
def Obligations.ChcfgWriteReachesTheSelectedChannel : Prop :=
  (∀ (data : Byte) (s : State), s.busQuiet →
    let c := s.chan s.win.chsel
    let cfg : ChanConfig := { sense := if data.getLsbD 7 then .level else .edge, burst := data.toNat % 32 }
    (data.toNat % 32 = 0 ∨ 16 < data.toNat % 32 → exec (.chcfgWrite data) s = .next s.released) ∧
    (1 ≤ data.toNat % 32 → data.toNat % 32 ≤ 16 → c.port ≠ .none →
      exec (.chcfgWrite data) s = .next (s.released.setChan s.win.chsel { c with stored := cfg })) ∧
    (1 ≤ data.toNat % 32 → data.toNat % 32 ≤ 16 → c.port = .none →
      exec (.chcfgWrite data) s = .next ((s.released.setChan s.win.chsel
        { c with stored := cfg, inUse := cfg, latch := c.latch && (c.inUse.sense == cfg.sense) }).checkUnit
          s.win.chsel))) ∧
  (∀ u : State,
    let cfg := (u.chan u.win.chsel).stored
    cfg.burst ≤ 16 → (u.readRegister 0x1D).toNat = (if cfg.sense = .level then 128 else 0) + cfg.burst)

/-- The rows that act only on what the events before them have left (log 24). CONFIGURATION_IN_USE: a deferred
configuration comes into use when the channel has neither claim nor grant, and its unit is checked (R104, R108).
PENDING_FLAGS_ACTED on a BUSY channel without claim or grant: a pending flush takes effect, else a pending hold stops
it (R125). COMPLETION_RECORD_TAKEN: with room in the log the lowest-numbered waiting channel is served (R133, R134).
In every other case nothing happens. -/
def Obligations.DeferredEventsActOnWhatIsLeft : Prop :=
  ∀ (n : Fin 4) (s : State),
    ((s.chan n).port ≠ .none ∨ (s.chan n).inUse = (s.chan n).stored →
      exec (.configurationInUse n) s = .next s) ∧
    ((s.chan n).port = .none → (s.chan n).inUse ≠ (s.chan n).stored →
      exec (.configurationInUse n) s = .next ((s.setChan n { s.chan n with
        inUse := (s.chan n).stored,
        latch := (s.chan n).latch && ((s.chan n).inUse.sense == (s.chan n).stored.sense) }).checkUnit n)) ∧
    ((s.chan n).state ≠ .busy ∨ (s.chan n).port ≠ .none ∨
        ((s.chan n).flushPending = false ∧ (s.chan n).holdPending = false) →
      exec (.pendingFlagsActed n) s = .next s) ∧
    ((s.chan n).state = .busy → (s.chan n).port = .none → (s.chan n).flushPending = true →
      exec (.pendingFlagsActed n) s = .next { s with txe := { s.txe with
        flushn := (s.chan n).queue.length, chans := s.txe.chans.set n (s.chan n).flushed } }) ∧
    (∀ d rest, (s.chan n).state = .busy → (s.chan n).port = .none → (s.chan n).flushPending = false →
      (s.chan n).holdPending = true → (s.chan n).queue = d :: rest → d.remaining ≠ 0 →
      exec (.pendingFlagsActed n) s = .next
        (s.setChan n { s.chan n with state := .held, holdPending := false })) ∧
    ((∀ m, (s.chan m).state ≠ .posting) ∨ 16 ≤ s.clog.records.length →
      exec .completionRecordTaken s = .next s) ∧
    ((s.chan n).state = .posting → (∀ m < n, (s.chan m).state ≠ .posting) → s.clog.records.length < 16 →
      exec .completionRecordTaken s = .next (s.takeRecord n))

/-- TRQ_ASSERT (R114, R115, R116): under EDGE an edge sets a clear latch, and with the latch set is an overrun that
files its report and, in BUSY with flush pending clear, faults the channel; OFF and FAULTED ignore it; under LEVEL
the line is asserted and the unit checked. The latch stays set in an overrun (R115), for no grant follows to consume it
(log 34). -/
def Obligations.AssertingEdgeIsLatchedOrOverruns : Prop :=
  ∀ (n : Fin 4) (s : State),
    let c : Channel := { s.chan n with trq := true }
    let reported := s.fileFault { source := .channel n, kind := .overrun, dir := .none, logical := none,
                                  physical := none, tag := c.queue.head?.map (fun d => d.tag) }
    (c.inUse.sense = .level → exec (.trqAssert n) s = .next ((s.setChan n c).checkUnit n)) ∧
    (c.inUse.sense = .edge → c.state = .off ∨ c.state = .faulted →
      exec (.trqAssert n) s = .next (s.setChan n c)) ∧
    (c.inUse.sense = .edge → c.state ≠ .off → c.state ≠ .faulted →
      (c.latch = false →
        exec (.trqAssert n) s = .next ((s.setChan n { c with latch := true }).checkUnit n)) ∧
      (c.latch = true →
        (c.state ≠ .busy ∨ c.flushPending = true →
          exec (.trqAssert n) s = .next (reported.setChan n { c with overrun := true })) ∧
        (c.state = .busy → c.flushPending = false → c.granted = false →
          exec (.trqAssert n) s = .next
            (reported.setChan n { c.release with overrun := true, state := .faulted, holdPending := false })) ∧
        (∀ o, c.state = .busy → c.flushPending = false → c.granted = true → s.mseq.op = some o →
          exec (.trqAssert n) s = .next
            ({ reported with parb := { s.parb with holder := .residual } }.setChan n
              { c.release with overrun := true, state := .faulted, holdPending := false }))))

/-- TRQ_DEASSERT: the line falls; under LEVEL a standing claim of a PACED head is withdrawn, a configuration deferred
behind it comes into use with the latch clear after a change of sense, and the unit is checked (R104, R108, R116), which
with the line inactive and the latch clear raises no claim; nothing else happens, whatever the sense and the state. And
what it is for a claim or a grant to leave a channel, here and everywhere: TAKn and TEND are released, and the stored
configuration comes into use, with the latch clear after a change of sense (R104, R117; log 23). -/
def Obligations.DeassertionWithdrawsALevelClaim : Prop :=
  (∀ (n : Fin 4) (s : State),
    (∀ limit d rest, (s.chan n).inUse.sense = .level → (s.chan n).port = .claim limit →
      (s.chan n).queue = d :: rest → d.pacing = .paced →
      let withdrawn : State := s.setChan n { s.chan n with
        trq := false, port := .none, tak := false, tend := false, inUse := (s.chan n).stored,
        latch := (s.chan n).latch && ((s.chan n).stored.sense == .level) }
      exec (.trqDeassert n) s = .next (withdrawn.checkUnit n) ∧ withdrawn.checkUnit n = withdrawn) ∧
    ((s.chan n).inUse.sense = .edge ∨ (∀ limit, (s.chan n).port ≠ .claim limit) ∨
        (∀ d rest, (s.chan n).queue = d :: rest → d.pacing = .free) →
      exec (.trqDeassert n) s = .next (s.setChan n { s.chan n with trq := false }))) ∧
  (∀ c : Channel, c.release =
    { c with port := .none, tak := false, tend := false, inUse := c.stored,
             latch := c.latch && (c.inUse.sense == c.stored.sense) })

/-- The head's arithmetic after a unit (R101): INC adds 1 and DEC subtracts 1 through the whole 24-bit space, FIX
keeps the address, and remaining falls by one. -/
def Obligations.HeadAdvancesByItsSteps : Prop :=
  ∀ d : Descriptor,
    (d.srcStep = .inc → d.advance.curSrc.toNat = (d.curSrc.toNat + 1) % 0x1000000) ∧
    (d.srcStep = .dec → d.advance.curSrc.toNat = (d.curSrc.toNat + 0xFFFFFF) % 0x1000000) ∧
    (d.srcStep = .fix → d.advance.curSrc = d.curSrc) ∧
    (d.dstStep = .inc → d.advance.curDst.toNat = (d.curDst.toNat + 1) % 0x1000000) ∧
    (d.dstStep = .dec → d.advance.curDst.toNat = (d.curDst.toNat + 0xFFFFFF) % 0x1000000) ∧
    (d.dstStep = .fix → d.advance.curDst = d.curDst) ∧
    (d.remaining ≠ 0 → d.advance.remaining.toNat + 1 = d.remaining.toNat) ∧
    d.advance = { d with curSrc := d.advance.curSrc, curDst := d.advance.curDst, remaining := d.advance.remaining }

/-- UNIT_COMPLETE (R110): the head is advanced, and then, in this order, a pending flush takes effect, a pending hold
stops the channel, remaining 0 posts the record, a PACED head's grant ends, and a FREE burst ends or goes on by R53
and R54. Whenever the grant ends the port is free. A burst's next unit captures both region entries as they stand at
the unit boundary (log 12). The WRITE completes up to 255 clocks of extension (R67). A grant with limit l and m units
moved before goes on only while m + 1 < l (R53, condition 1), one with no limit, a PACED head's, never (R52), and the
next unit counts on; a burst yields exactly when a cycle is WAITING, when the debt is 1 or more and the refresh
URGENT, or when the port is not RUNNING (R54). -/
def Obligations.UnitCompleteAdvancesTheHead : Prop :=
  (∀ (s : State) (left : Nat) (n : Fin 4) (dst : Access) (b : Byte) (d : Descriptor) (rest : List Descriptor),
    s.mseq.op = some ⟨.write, left, .unitWrite n dst b⟩ → s.parb.holder = .channel n →
    (s.chan n).queue = d :: rest → s.mseq.extension < 256 →
    let c : Channel := { s.chan n with queue := d.advance :: rest }
    let free : State := { s with mseq := { s.mseq with op := none, extension := 0 },
                                 parb := { s.parb with holder := .none } }
    let posting := free.setChan n { c.release with
      state := .posting,
      offer := some { status := .done, tag := d.tag, remaining := d.advance.remaining, notify := d.notify } }
    (c.flushPending = true →
      ∃ t, exec .unitComplete s = .next t ∧
        t = { free with txe := { s.txe with flushn := rest.length + 1,
                                            chans := s.txe.chans.set n c.flushed } }) ∧
    (c.flushPending = false → d.advance.remaining = 0 →
      (s.clog.records.length < 16 → exec .unitComplete s = .next (posting.takeRecord n)) ∧
      (16 ≤ s.clog.records.length → exec .unitComplete s = .next posting)) ∧
    (c.flushPending = false → c.holdPending = true → d.advance.remaining ≠ 0 →
      exec .unitComplete s = .next
        (free.setChan n { c.release with state := .held, holdPending := false })) ∧
    (c.flushPending = false → c.holdPending = false → d.advance.remaining ≠ 0 →
      (d.pacing = .paced ∨ c.port.burstOpen = false ∨ s.yields = true →
        exec .unitComplete s = .next ((free.setChan n c.release).checkUnit n)) ∧
      (∀ m k, d.pacing = .free → c.port.burstOpen = true → s.yields = false →
        unitVerdict s.rgd.regions d.advance.curSrc d.advance.curDst = .pass m k →
        let src : Access := { dir := .read, addr := d.advance.curSrc, region := m, entry := s.rgd.regions.get m,
                              staleMark := false }
        let dst' : Access := { dir := .write, addr := d.advance.curDst, region := k, entry := s.rgd.regions.get k,
                               staleMark := false }
        exec .unitComplete s = .next
          ((s.setChan n { c with port := c.port.unitMoved, tend := false }).startOp (.unitRead n src dst')
            (nextForAccess s.rgd.regions s.mseq.record src))) ∧
      (∀ kind dir addr, d.pacing = .free → c.port.burstOpen = true → s.yields = false →
        unitVerdict s.rgd.regions d.advance.curSrc d.advance.curDst = .fail kind dir addr →
        exec .unitComplete s = .next ((free.setChan n c.release).checkUnit n)))) ∧
  (∀ limit moved : Nat,
    ((PortRequest.grant (some limit) moved).burstOpen = true ↔ moved + 1 < limit) ∧
    (PortRequest.grant none moved).burstOpen = false ∧
    ∀ l, (PortRequest.grant l moved).unitMoved = .grant l (moved + 1)) ∧
  (∀ s : State, s.yields = true ↔
    s.pbi.phase = .waiting ∨ (1 ≤ s.rpc.debt ∧ s.refreshUrgent = true) ∨ s.rpc.portState ≠ .running)

/-! ### The Completion Log -/

/-- A record taken (R119, R131): it joins the tail with the next sequence number, the counter steps on modulo 256,
and the channel removes its head and goes HELD, BUSY with its next head checked, or READY. -/
def Obligations.TakenRecordIsNumberedAndPosted : Prop :=
  ∀ (s : State) (n : Fin 4) (o : Offer) (d : Descriptor) (rest : List Descriptor),
    (s.chan n).offer = some o → (s.chan n).queue = d :: rest →
    let stop := o.status = .aborted ∨ d.stopAfter = true ∨ (s.chan n).holdPending = true
    let logged : State := { s with clog :=
      { records := s.clog.records ++ [{ seq := s.clog.nextSeq, channel := n, status := o.status, tag := o.tag,
                                        remaining := o.remaining, notify := o.notify }],
        nextSeq := s.clog.nextSeq + 1 } }
    (stop → s.takeRecord n =
      logged.setChan n { s.chan n with queue := rest, offer := none, state := .held, holdPending := false }) ∧
    (¬ stop → rest = [] → s.takeRecord n =
      logged.setChan n { s.chan n with queue := [], offer := none, state := .ready }) ∧
    (¬ stop → rest ≠ [] → s.takeRecord n =
      (logged.setChan n { s.chan n with queue := rest, offer := none, state := .busy }).checkUnit n)

/-- LOGPOP removes the oldest record, or answers EMPTY; the freed slot goes to the lowest-numbered waiting channel in
the same event (R134, R137). The view registers show the oldest record as the log stands: LOGCNT, LSEQ, LCHST, LTAG and
LREM, low byte first, and 00h in the last five with the log empty (R138, 11.8). -/
def Obligations.LogpopFreesASlot : Prop :=
  (∀ (data : Byte) (s : State), s.busQuiet →
    (s.clog.records = [] → exec (.logpop data) s = .next (s.released.setResult .empty)) ∧
    (∀ r rest, s.clog.records = r :: rest →
      let popped : State := { s.released.setResult .ok with clog := { s.clog with records := rest } }
      ((∀ n, (s.chan n).state ≠ .posting) → exec (.logpop data) s = .next popped) ∧
      (∀ n, (s.chan n).state = .posting → (∀ m < n, (s.chan m).state ≠ .posting) → rest.length < 16 →
        exec (.logpop data) s = .next (popped.takeRecord n)))) ∧
  (∀ u : State,
    (u.clog.records.length ≤ 16 → (u.readRegister 0x30).toNat = u.clog.records.length) ∧
    (u.clog.records = [] → ∀ off : Offset, 0x31 ≤ off.toNat → off.toNat ≤ 0x35 → u.readRegister off = 0) ∧
    (∀ r rest, u.clog.records = r :: rest →
      u.readRegister 0x31 = r.seq ∧
      (u.readRegister 0x32).toNat =
        8 * r.notify.toNat + (if r.status = .aborted then 4 else 0) + r.channel.val ∧
      u.readRegister 0x33 = r.tag ∧ u.readRegister 0x35 ++ u.readRegister 0x34 = r.remaining))

/-! ### Faults and interrupts -/

/-- FLTPOP removes the oldest fault record, or answers EMPTY; the overflow flag, every channel and every other log
stay as they stand, whatever the port state and the grant (R144). The view registers show the oldest record as the log
stands, so after FLTPOP the next one: FLTCNT, FKIND by its layout, FLOGADR and FPHYS low byte first, FTAG, with 00h for
an absent field and for an empty log (R146, 11.8). -/
def Obligations.FltpopRemovesTheOldestRecord : Prop :=
  (∀ (data : Byte) (s : State), s.busQuiet →
    (s.flog.records = [] → exec (.fltpop data) s = .next (s.released.setResult .empty)) ∧
    (∀ r rest, s.flog.records = r :: rest →
      exec (.fltpop data) s = .next { s.released.setResult .ok with flog := { s.flog with records := rest } })) ∧
  (∀ u : State,
    (u.flog.records.length ≤ 4 → (u.readRegister 0x38).toNat = u.flog.records.length) ∧
    (u.flog.records = [] → ∀ off : Offset, 0x39 ≤ off.toNat → off.toNat ≤ 0x3F → u.readRegister off = 0) ∧
    (∀ r rest, u.flog.records = r :: rest →
      (∀ code : Nat,
        (r.kind, r.dir, code) ∈
          [(FaultKind.rights, FaultDir.read, 0), (.rights, .write, 1), (.unmapped, .read, 2), (.unmapped, .write, 3),
           (.protect, .write, 4), (.timeout, .read, 5), (.timeout, .write, 6), (.overrun, .none, 7)] →
        (u.readRegister 0x39).toNat =
          64 * (match r.source with
            | .processor => 0
            | .channel n => n.val) +
          32 * r.tag.isSome.toNat + 16 * r.physical.isSome.toNat + 8 * r.logical.isSome.toNat + code) ∧
      u.readRegister 0x3B ++ u.readRegister 0x3A = r.logical.getD 0 ∧
      u.readRegister 0x3E ++ u.readRegister 0x3D ++ u.readRegister 0x3C = r.physical.getD 0 ∧
      u.readRegister 0x3F = r.tag.getD 0))

/-- INTEN_WRITE stores the five enable bits, which read back with the other bits 0; no cause changes; IRQ follows at
once; pin reset clears INTEN and controller reset keeps it (R149). -/
def Obligations.IntenWriteStoresTheEnables : Prop :=
  ∀ (data : Byte) (s : State), s.busQuiet →
    ∃ t, exec (.intenWrite data) s = .next t ∧
      t = { s.released with iru := { s.iru with inten := data.setWidth 5 } } ∧
      t.readRegister 0x4D = data &&& 0x1F ∧ t.causes = s.causes ∧ t.readRegister 0x4E = s.readRegister 0x4E ∧
      (t.irq = true ↔ ∃ i < 5, s.causes.getLsbD i = true ∧ data.getLsbD i = true) ∧
      (∀ u, exec .pinReset s = .next u → u.readRegister 0x4D = 0) ∧
      (∀ b u, exec (.ctlrst b) s = .next u → u.readRegister 0x4D = s.readRegister 0x4D)

/-- INTCAUSE_WRITE clears each sticky cause whose bit is 1 and changes nothing else; INTCAUSE reads the five causes
as they stand, whatever the enables, with the other bits 0 (R150). -/
def Obligations.IntcauseWriteClearsStickyCauses : Prop :=
  ∀ (data : Byte) (s : State), s.busQuiet →
    exec (.intcauseWrite data) s = .next { s.released with
      iru := { s.iru with lost := s.iru.lost && !data.getLsbD 2, port := s.iru.port && !data.getLsbD 3 },
      flog := { s.flog with overflow := s.flog.overflow && !data.getLsbD 4 } } ∧
    (∀ u : State,
      (u.readRegister 0x4E).getLsbD 0 = u.clog.records.any (fun r => r.notify) ∧
      (u.readRegister 0x4E).getLsbD 1 = !u.flog.records.isEmpty ∧
      (u.readRegister 0x4E).getLsbD 2 = u.iru.lost ∧ (u.readRegister 0x4E).getLsbD 3 = u.iru.port ∧
      (u.readRegister 0x4E).getLsbD 4 = u.flog.overflow ∧ (u.readRegister 0x4E).toNat < 32) ∧
    (∀ u : State, u.readAt 0x4E = { u with pbi := { u.pbi with readOut := some (u.readRegister 0x4E) } })

/-- IRQ is asserted exactly when a pending cause has its INTEN bit set, in whatever state, so it changes with the
change that brings this about and has no latch; it is inactive after either reset (R151). -/
def Obligations.IrqFollowsTheEnabledCauses : Prop :=
  ∀ s : State,
    (∀ t, exec .pinReset s = .next t → t.irq = false) ∧
    (∀ data t, s.busQuiet → exec (.ctlrst data) s = .next t → t.irq = false) ∧
    (s.irq = true ↔
      ((∃ r ∈ s.clog.records, r.notify = true) ∧ s.iru.inten.getLsbD 0 = true) ∨
      (s.flog.records ≠ [] ∧ s.iru.inten.getLsbD 1 = true) ∨
      (s.iru.lost = true ∧ s.iru.inten.getLsbD 2 = true) ∨
      (s.iru.port = true ∧ s.iru.inten.getLsbD 3 = true) ∨
      (s.flog.overflow = true ∧ s.iru.inten.getLsbD 4 = true))

/-! ### Resets -/

/-- CTLRST (R158): every channel OFF, the logs, flags, FLUSHN and the snapshot cleared, the pointer 3, a channel's
grant passed to RESIDUAL with its operation left to end; everything else is kept. That each request line keeps its level
is the model's choice (log 17). -/
def Obligations.ControllerResetReachesTheChannelsAndLogs : Prop :=
  ∀ (data : Byte) (s : State), s.busQuiet →
    ∃ t, exec (.ctlrst data) s = .next t ∧
      (∀ n, (t.chan n) =
        { state := .off, queue := [], latch := false, overrun := false, holdPending := false, flushPending := false,
          port := .none, stored := ⟨.edge, 4⟩, inUse := ⟨.edge, 4⟩, offer := none, trq := (s.chan n).trq,
          tak := false, tend := false }) ∧
      t.txe.flushn = 0 ∧ t.txe.staging = s.txe.staging ∧
      t.clog.records = [] ∧ t.clog.nextSeq = 0 ∧ t.flog.records = [] ∧ t.flog.overflow = false ∧
      t.iru = { s.iru with lost := false, port := false } ∧
      t.win.result = .ok ∧ t.win.chsel = s.win.chsel ∧ t.win.snapshot = ⟨0, 0, 0, 0, 0, 0⟩ ∧
      t.parb.pointer = 3 ∧ t.parb.mode = s.parb.mode ∧
      (∀ n o, s.parb.holder = .channel n → s.mseq.op = some o → t.parb.holder = .residual ∧ t.mseq = s.mseq) ∧
      ((∀ n, s.parb.holder ≠ .channel n) → t.parb.holder = s.parb.holder ∧ t.mseq = s.mseq) ∧
      t.mseq.record = s.mseq.record ∧ t.rpc = s.rpc ∧ t.wtu = s.wtu ∧ t.rgd = s.rgd ∧
      t.pbi = s.released.pbi ∧ t.pending = s.pending ∧ t.irq = false

/-- PIN_RESET (R159, 11.6): in any state, every register reads the map's reset value, D0 to D7, MA0 to MA23 and
MD0 to MD7 are in high impedance, no cycle is held, the port is free and IRQ inactive; and so is every block at its
reset state where no register shows it: the timer, the park step and the wake cause (R75), and of every channel the
latch, the flags, the port request, the configuration in use and the offer (R103, R106), and the window and region
tables entry by entry (R2, R18). -/
def Obligations.PinResetGivesTheMapsValues : Prop :=
  ∀ s : State, ∃ t, exec .pinReset s = .next t ∧
    (∀ off : Offset, t.readRegister off =
      if off = 0x1D then 4 else if off = 0x21 then 1 else if off = 0x46 then 4 else 0) ∧
    t.dataBus = none ∧ t.mdOut = none ∧ t.mseq = { op := none, record := none, extension := 0, ma := none } ∧
    t.pbi.phase = .idle ∧ t.pbi.cycle = none ∧ t.pbi.held = none ∧ t.pbi.readOut = none ∧
    t.parb = { holder := .none, pointer := 3, mode := .fixed } ∧ t.irq = false ∧
    t.rpc = { portState := .running, debt := 0, timer := none, rfint := 0, rfurg := 4, parkStep := false,
              wakeCause := none, sref := false } ∧
    (∀ n, (t.chan n).state = .off ∧ (t.chan n).queue = [] ∧ (t.chan n).latch = false ∧
      (t.chan n).overrun = false ∧ (t.chan n).holdPending = false ∧ (t.chan n).flushPending = false ∧
      (t.chan n).port = .none ∧ (t.chan n).stored = ⟨.edge, 4⟩ ∧ (t.chan n).inUse = ⟨.edge, 4⟩ ∧
      (t.chan n).offer = none ∧ t.takPin n = false ∧ t.rsel n = false) ∧
    t.clog = { records := [], nextSeq := 0 } ∧ t.flog = { records := [], overflow := false } ∧
    t.iru = { lost := false, port := false, inten := 0 } ∧
    t.tendPin = false ∧ t.wtu = Wtu.reset ∧ t.rgd = Rgd.reset ∧
    (∀ i, t.wtu.windows.get i =
      if i = 0 then
        { enable := true, basePage := 0, pageCount := 16, frameBase := 0, readRight := true, writeRight := true }
      else
        { enable := false, basePage := 0, pageCount := 1, frameBase := 0, readRight := false, writeRight := false }) ∧
    (∀ n, t.rgd.regions.get n =
      { enable := n == 0, startFrame := 0, endFrame := if n = 0 then 0x0FF else 0, kind := .static, wait := 7,
        writeProtect := false, readyEnable := true, rowSize := .b512, rowPenalty := 1 }) ∧
    t.pending = s.pending
end

