-- ==== Sys2Proof/Laws/State.lean ====
section
/-! SUPPORT. Reading a field, a channel or a table entry after an update: one lemma for each field and each named
update of `State`, so that no later proof unfolds a record update. -/
namespace Sys2Proof.Machine

/-! ### Quads and octs -/

@[simp] theorem Quad.get_set_same {α : Type} (q : Quad α) (i : Fin 4) (a : α) : (q.set i a).get i = a := by
  match i with
  | 0 => rfl
  | 1 => rfl
  | 2 => rfl
  | 3 => rfl

theorem Quad.get_set {α : Type} (q : Quad α) (i j : Fin 4) (a : α) :
    (q.set i a).get j = if j = i then a else q.get j := by
  match i, j with
  | 0, 0 | 0, 1 | 0, 2 | 0, 3 | 1, 0 | 1, 1 | 1, 2 | 1, 3 | 2, 0 | 2, 1 | 2, 2 | 2, 3 | 3, 0 | 3, 1 | 3, 2
  | 3, 3 => rfl

theorem Quad.get_set_ne {α : Type} (q : Quad α) {i j : Fin 4} (a : α) (h : j ≠ i) :
    (q.set i a).get j = q.get j := by
  rw [Quad.get_set, if_neg h]

@[simp] theorem Quad.set_get {α : Type} (q : Quad α) (i : Fin 4) : q.set i (q.get i) = q := by
  match i with
  | 0 => rfl
  | 1 => rfl
  | 2 => rfl
  | 3 => rfl

@[simp] theorem Quad.set_set {α : Type} (q : Quad α) (i : Fin 4) (a b : α) : (q.set i a).set i b = q.set i b := by
  match i with
  | 0 => rfl
  | 1 => rfl
  | 2 => rfl
  | 3 => rfl

@[simp] theorem Quad.get_map {α β : Type} (f : α → β) (q : Quad α) (i : Fin 4) : (q.map f).get i = f (q.get i) := by
  match i with
  | 0 => rfl
  | 1 => rfl
  | 2 => rfl
  | 3 => rfl

theorem Quad.ext_get {α : Type} {p q : Quad α} (h : ∀ i, p.get i = q.get i) : p = q := by
  have h0 : p.q0 = q.q0 := h 0
  have h1 : p.q1 = q.q1 := h 1
  have h2 : p.q2 = q.q2 := h 2
  have h3 : p.q3 = q.q3 := h 3
  cases p
  cases q
  simp_all

@[simp] theorem Oct.get_set_same {α : Type} (q : Oct α) (i : Fin 8) (a : α) : (q.set i a).get i = a := by
  match i with
  | 0 => rfl
  | 1 => rfl
  | 2 => rfl
  | 3 => rfl
  | 4 => rfl
  | 5 => rfl
  | 6 => rfl
  | 7 => rfl

theorem Oct.get_set_ne {α : Type} (q : Oct α) {i j : Fin 8} (a : α) (h : j ≠ i) : (q.set i a).get j = q.get j := by
  revert h
  fin_cases i <;> fin_cases j <;> intro h <;> first | rfl | exact absurd rfl h

@[simp] theorem Oct.set_get {α : Type} (q : Oct α) (i : Fin 8) : q.set i (q.get i) = q := by
  match i with
  | 0 => rfl
  | 1 => rfl
  | 2 => rfl
  | 3 => rfl
  | 4 => rfl
  | 5 => rfl
  | 6 => rfl
  | 7 => rfl

/-! ### Channels of a state -/

@[simp] theorem State.chan_setChan_same (s : State) (n : Fin 4) (c : Channel) : (s.setChan n c).chan n = c :=
  Quad.get_set_same s.txe.chans n c

theorem State.chan_setChan (s : State) (n m : Fin 4) (c : Channel) :
    (s.setChan n c).chan m = if m = n then c else s.chan m :=
  Quad.get_set s.txe.chans n m c

theorem State.chan_setChan_ne (s : State) {n m : Fin 4} (c : Channel) (h : m ≠ n) :
    (s.setChan n c).chan m = s.chan m :=
  Quad.get_set_ne s.txe.chans c h

@[simp] theorem State.setChan_chan (s : State) (n : Fin 4) : s.setChan n (s.chan n) = s := by
  simp only [State.setChan, State.chan, Quad.set_get]

@[simp] theorem State.setChan_setChan (s : State) (n : Fin 4) (c d : Channel) :
    (s.setChan n c).setChan n d = s.setChan n d := by
  simp only [State.setChan, Quad.set_set]

/-! ### setChan -/

@[simp] theorem State.setChan_pending (s : State) (n : Fin 4) (c : Channel) : (s.setChan n c).pending =
    s.pending := by rfl

@[simp] theorem State.setChan_pbi (s : State) (n : Fin 4) (c : Channel) : (s.setChan n c).pbi = s.pbi := by rfl

@[simp] theorem State.setChan_wtu (s : State) (n : Fin 4) (c : Channel) : (s.setChan n c).wtu = s.wtu := by rfl

@[simp] theorem State.setChan_rgd (s : State) (n : Fin 4) (c : Channel) : (s.setChan n c).rgd = s.rgd := by rfl

@[simp] theorem State.setChan_parb (s : State) (n : Fin 4) (c : Channel) : (s.setChan n c).parb = s.parb := by rfl

@[simp] theorem State.setChan_mseq (s : State) (n : Fin 4) (c : Channel) : (s.setChan n c).mseq = s.mseq := by rfl

@[simp] theorem State.setChan_rpc (s : State) (n : Fin 4) (c : Channel) : (s.setChan n c).rpc = s.rpc := by rfl

@[simp] theorem State.setChan_txe (s : State) (n : Fin 4) (c : Channel) : (s.setChan n c).txe =
    { s.txe with chans := s.txe.chans.set n c } := by rfl

@[simp] theorem State.setChan_clog (s : State) (n : Fin 4) (c : Channel) : (s.setChan n c).clog = s.clog := by rfl

@[simp] theorem State.setChan_flog (s : State) (n : Fin 4) (c : Channel) : (s.setChan n c).flog = s.flog := by rfl

@[simp] theorem State.setChan_iru (s : State) (n : Fin 4) (c : Channel) : (s.setChan n c).iru = s.iru := by rfl

@[simp] theorem State.setChan_win (s : State) (n : Fin 4) (c : Channel) : (s.setChan n c).win = s.win := by rfl

@[simp] theorem State.setChan_freeCount (s : State) (n : Fin 4) (c : Channel) : (s.setChan n c).freeCount =
    s.freeCount := by rfl

/-! ### setResult -/

@[simp] theorem State.setResult_pending (s : State) (r : ResultCode) : (s.setResult r).pending = s.pending := by rfl

@[simp] theorem State.setResult_pbi (s : State) (r : ResultCode) : (s.setResult r).pbi = s.pbi := by rfl

@[simp] theorem State.setResult_wtu (s : State) (r : ResultCode) : (s.setResult r).wtu = s.wtu := by rfl

@[simp] theorem State.setResult_rgd (s : State) (r : ResultCode) : (s.setResult r).rgd = s.rgd := by rfl

@[simp] theorem State.setResult_parb (s : State) (r : ResultCode) : (s.setResult r).parb = s.parb := by rfl

@[simp] theorem State.setResult_mseq (s : State) (r : ResultCode) : (s.setResult r).mseq = s.mseq := by rfl

@[simp] theorem State.setResult_rpc (s : State) (r : ResultCode) : (s.setResult r).rpc = s.rpc := by rfl

@[simp] theorem State.setResult_txe (s : State) (r : ResultCode) : (s.setResult r).txe = s.txe := by rfl

@[simp] theorem State.setResult_clog (s : State) (r : ResultCode) : (s.setResult r).clog = s.clog := by rfl

@[simp] theorem State.setResult_flog (s : State) (r : ResultCode) : (s.setResult r).flog = s.flog := by rfl

@[simp] theorem State.setResult_iru (s : State) (r : ResultCode) : (s.setResult r).iru = s.iru := by rfl

@[simp] theorem State.setResult_win (s : State) (r : ResultCode) : (s.setResult r).win =
    { s.win with result := r } := by rfl

@[simp] theorem State.setResult_freeCount (s : State) (r : ResultCode) : (s.setResult r).freeCount =
    s.freeCount := by rfl

@[simp] theorem State.chan_setResult (s : State) (r : ResultCode) (m : Fin 4) : (s.setResult r).chan m = s.chan m := by rfl

/-! ### startOp -/

@[simp] theorem State.startOp_pending (s : State) (w : Work) (k : OpKind) : (s.startOp w k).pending = s.pending := by rfl

@[simp] theorem State.startOp_pbi (s : State) (w : Work) (k : OpKind) : (s.startOp w k).pbi = s.pbi := by rfl

@[simp] theorem State.startOp_wtu (s : State) (w : Work) (k : OpKind) : (s.startOp w k).wtu = s.wtu := by rfl

@[simp] theorem State.startOp_rgd (s : State) (w : Work) (k : OpKind) : (s.startOp w k).rgd = s.rgd := by rfl

@[simp] theorem State.startOp_parb (s : State) (w : Work) (k : OpKind) : (s.startOp w k).parb = s.parb := by rfl

@[simp] theorem State.startOp_mseq (s : State) (w : Work) (k : OpKind) : (s.startOp w k).mseq =
    { op := some { kind := k, left := opClocks w k, work := w },
      record := if k = .selfRefreshEnter then none else s.mseq.record, extension := 0,
      ma := (opAddress w k).or s.mseq.ma } := by rfl

@[simp] theorem State.startOp_rpc (s : State) (w : Work) (k : OpKind) : (s.startOp w k).rpc = s.rpc := by rfl

@[simp] theorem State.startOp_txe (s : State) (w : Work) (k : OpKind) : (s.startOp w k).txe = s.txe := by rfl

@[simp] theorem State.startOp_clog (s : State) (w : Work) (k : OpKind) : (s.startOp w k).clog = s.clog := by rfl

@[simp] theorem State.startOp_flog (s : State) (w : Work) (k : OpKind) : (s.startOp w k).flog = s.flog := by rfl

@[simp] theorem State.startOp_iru (s : State) (w : Work) (k : OpKind) : (s.startOp w k).iru = s.iru := by rfl

@[simp] theorem State.startOp_win (s : State) (w : Work) (k : OpKind) : (s.startOp w k).win = s.win := by rfl

@[simp] theorem State.startOp_freeCount (s : State) (w : Work) (k : OpKind) : (s.startOp w k).freeCount =
    s.freeCount := by rfl

@[simp] theorem State.chan_startOp (s : State) (w : Work) (k : OpKind) (m : Fin 4) : (s.startOp w k).chan m = s.chan m := by rfl

/-! ### idleMseq -/

@[simp] theorem State.idleMseq_pending (s : State) : s.idleMseq.pending = s.pending := by rfl

@[simp] theorem State.idleMseq_pbi (s : State) : s.idleMseq.pbi = s.pbi := by rfl

@[simp] theorem State.idleMseq_wtu (s : State) : s.idleMseq.wtu = s.wtu := by rfl

@[simp] theorem State.idleMseq_rgd (s : State) : s.idleMseq.rgd = s.rgd := by rfl

@[simp] theorem State.idleMseq_parb (s : State) : s.idleMseq.parb = s.parb := by rfl

@[simp] theorem State.idleMseq_mseq (s : State) : s.idleMseq.mseq = { s.mseq with op := none, extension := 0 } := by rfl

@[simp] theorem State.idleMseq_rpc (s : State) : s.idleMseq.rpc = s.rpc := by rfl

@[simp] theorem State.idleMseq_txe (s : State) : s.idleMseq.txe = s.txe := by rfl

@[simp] theorem State.idleMseq_clog (s : State) : s.idleMseq.clog = s.clog := by rfl

@[simp] theorem State.idleMseq_flog (s : State) : s.idleMseq.flog = s.flog := by rfl

@[simp] theorem State.idleMseq_iru (s : State) : s.idleMseq.iru = s.iru := by rfl

@[simp] theorem State.idleMseq_win (s : State) : s.idleMseq.win = s.win := by rfl

@[simp] theorem State.idleMseq_freeCount (s : State) : s.idleMseq.freeCount = s.freeCount := by rfl

@[simp] theorem State.chan_idleMseq (s : State) (m : Fin 4) : s.idleMseq.chan m = s.chan m := by rfl

/-! ### endGrant -/

@[simp] theorem State.endGrant_pending (s : State) : s.endGrant.pending = s.pending := by rfl

@[simp] theorem State.endGrant_pbi (s : State) : s.endGrant.pbi = s.pbi := by rfl

@[simp] theorem State.endGrant_wtu (s : State) : s.endGrant.wtu = s.wtu := by rfl

@[simp] theorem State.endGrant_rgd (s : State) : s.endGrant.rgd = s.rgd := by rfl

@[simp] theorem State.endGrant_parb (s : State) : s.endGrant.parb = { s.parb with holder := .none } := by rfl

@[simp] theorem State.endGrant_mseq (s : State) : s.endGrant.mseq = { s.mseq with op := none, extension := 0 } := by rfl

@[simp] theorem State.endGrant_rpc (s : State) : s.endGrant.rpc = s.rpc := by rfl

@[simp] theorem State.endGrant_txe (s : State) : s.endGrant.txe = s.txe := by rfl

@[simp] theorem State.endGrant_clog (s : State) : s.endGrant.clog = s.clog := by rfl

@[simp] theorem State.endGrant_flog (s : State) : s.endGrant.flog = s.flog := by rfl

@[simp] theorem State.endGrant_iru (s : State) : s.endGrant.iru = s.iru := by rfl

@[simp] theorem State.endGrant_win (s : State) : s.endGrant.win = s.win := by rfl

@[simp] theorem State.endGrant_freeCount (s : State) : s.endGrant.freeCount = s.freeCount := by rfl

@[simp] theorem State.chan_endGrant (s : State) (m : Fin 4) : s.endGrant.chan m = s.chan m := by rfl

/-! ### setRecord -/

@[simp] theorem State.setRecord_pending (s : State) (r : Option OpenRow) : (s.setRecord r).pending = s.pending := by rfl

@[simp] theorem State.setRecord_pbi (s : State) (r : Option OpenRow) : (s.setRecord r).pbi = s.pbi := by rfl

@[simp] theorem State.setRecord_wtu (s : State) (r : Option OpenRow) : (s.setRecord r).wtu = s.wtu := by rfl

@[simp] theorem State.setRecord_rgd (s : State) (r : Option OpenRow) : (s.setRecord r).rgd = s.rgd := by rfl

@[simp] theorem State.setRecord_parb (s : State) (r : Option OpenRow) : (s.setRecord r).parb = s.parb := by rfl

@[simp] theorem State.setRecord_mseq (s : State) (r : Option OpenRow) : (s.setRecord r).mseq =
    { s.mseq with record := r } := by rfl

@[simp] theorem State.setRecord_rpc (s : State) (r : Option OpenRow) : (s.setRecord r).rpc = s.rpc := by rfl

@[simp] theorem State.setRecord_txe (s : State) (r : Option OpenRow) : (s.setRecord r).txe = s.txe := by rfl

@[simp] theorem State.setRecord_clog (s : State) (r : Option OpenRow) : (s.setRecord r).clog = s.clog := by rfl

@[simp] theorem State.setRecord_flog (s : State) (r : Option OpenRow) : (s.setRecord r).flog = s.flog := by rfl

@[simp] theorem State.setRecord_iru (s : State) (r : Option OpenRow) : (s.setRecord r).iru = s.iru := by rfl

@[simp] theorem State.setRecord_win (s : State) (r : Option OpenRow) : (s.setRecord r).win = s.win := by rfl

@[simp] theorem State.setRecord_freeCount (s : State) (r : Option OpenRow) : (s.setRecord r).freeCount =
    s.freeCount := by rfl

@[simp] theorem State.chan_setRecord (s : State) (r : Option OpenRow) (m : Fin 4) : (s.setRecord r).chan m = s.chan m := by rfl

/-! ### released -/

@[simp] theorem State.released_pending (s : State) : s.released.pending = s.pending := by rfl

@[simp] theorem State.released_pbi (s : State) : s.released.pbi = { s.pbi with readOut := none } := by rfl

@[simp] theorem State.released_wtu (s : State) : s.released.wtu = s.wtu := by rfl

@[simp] theorem State.released_rgd (s : State) : s.released.rgd = s.rgd := by rfl

@[simp] theorem State.released_parb (s : State) : s.released.parb = s.parb := by rfl

@[simp] theorem State.released_mseq (s : State) : s.released.mseq = s.mseq := by rfl

@[simp] theorem State.released_rpc (s : State) : s.released.rpc = s.rpc := by rfl

@[simp] theorem State.released_txe (s : State) : s.released.txe = s.txe := by rfl

@[simp] theorem State.released_clog (s : State) : s.released.clog = s.clog := by rfl

@[simp] theorem State.released_flog (s : State) : s.released.flog = s.flog := by rfl

@[simp] theorem State.released_iru (s : State) : s.released.iru = s.iru := by rfl

@[simp] theorem State.released_win (s : State) : s.released.win = s.win := by rfl

@[simp] theorem State.released_freeCount (s : State) : s.released.freeCount = s.freeCount := by rfl

@[simp] theorem State.chan_released (s : State) (m : Fin 4) : s.released.chan m = s.chan m := by rfl

/-! ### useFree -/

@[simp] theorem State.useFree_pending (s : State) : s.useFree.pending = s.pending := by rfl

@[simp] theorem State.useFree_pbi (s : State) : s.useFree.pbi = s.pbi := by rfl

@[simp] theorem State.useFree_wtu (s : State) : s.useFree.wtu = s.wtu := by rfl

@[simp] theorem State.useFree_rgd (s : State) : s.useFree.rgd = s.rgd := by rfl

@[simp] theorem State.useFree_parb (s : State) : s.useFree.parb = s.parb := by rfl

@[simp] theorem State.useFree_mseq (s : State) : s.useFree.mseq = s.mseq := by rfl

@[simp] theorem State.useFree_rpc (s : State) : s.useFree.rpc = s.rpc := by rfl

@[simp] theorem State.useFree_txe (s : State) : s.useFree.txe = s.txe := by rfl

@[simp] theorem State.useFree_clog (s : State) : s.useFree.clog = s.clog := by rfl

@[simp] theorem State.useFree_flog (s : State) : s.useFree.flog = s.flog := by rfl

@[simp] theorem State.useFree_iru (s : State) : s.useFree.iru = s.iru := by rfl

@[simp] theorem State.useFree_win (s : State) : s.useFree.win = s.win := by rfl

@[simp] theorem State.useFree_freeCount (s : State) : s.useFree.freeCount = s.freeCount + 1 := by rfl

@[simp] theorem State.chan_useFree (s : State) (m : Fin 4) : s.useFree.chan m = s.chan m := by rfl

/-! ### The order of independent updates -/

theorem State.setChan_setResult (s : State) (n : Fin 4) (c : Channel) (r : ResultCode) :
    (s.setChan n c).setResult r = (s.setResult r).setChan n c := by rfl

theorem State.setChan_released (s : State) (n : Fin 4) (c : Channel) :
    (s.setChan n c).released = s.released.setChan n c := by rfl

end Sys2Proof.Machine
end

