-- ==== Sys2Proof/Laws/Ops.lean ====
section
/-! SUPPORT. One lemma for each shared operation that says everything it can do: the register window cycle, the
indexes, the verdicts, the bytes of a register, the claims, the fault report, the unit check, the record taken, the
release of a channel, the work on the port. -/
namespace Sys2Proof.Machine

/-! ### Indexes -/

theorem index4_of_val {data : Byte} {n : Fin 4} (h : data.toNat = n.val) : index4 data = some n := by
  have hlt : data.toNat < 4 := h ▸ n.isLt
  simp only [index4, hlt, dif_pos, Option.some.injEq]
  exact Fin.ext h

theorem index4_none {data : Byte} (h : 4 ≤ data.toNat) : index4 data = none :=
  dif_neg (Nat.not_lt.mpr h)

theorem index8_of_val {data : Byte} {n : Fin 8} (h : data.toNat = n.val) : index8 data = some n := by
  have hlt : data.toNat < 8 := h ▸ n.isLt
  simp only [index8, hlt, dif_pos, Option.some.injEq]
  exact Fin.ext h

theorem index8_none {data : Byte} (h : 8 ≤ data.toNat) : index8 data = none :=
  dif_neg (Nat.not_lt.mpr h)

/-! ### Windows and regions

Rewrite with these before `pageOf` or `frameOf` is unfolded: `omega` reads the result. -/

theorem WindowEntry.contains_iff {w : WindowEntry} {page : Nat} :
    w.contains page = true ↔
      w.enable = true ∧ w.basePage.toNat ≤ page ∧ page < w.basePage.toNat + w.pageCount := by
  simp [WindowEntry.contains, and_assoc]

theorem WindowEntry.wf_iff {w : WindowEntry} :
    w.wf = true ↔ 1 ≤ w.pageCount ∧ w.basePage.toNat + w.pageCount ≤ 16 ∧
      w.frameBase.toNat + w.pageCount ≤ 4096 := by
  simp [WindowEntry.wf, and_assoc]

theorem RegionEntry.contains_iff {e : RegionEntry} {frame : Nat} :
    e.contains frame = true ↔ e.enable = true ∧ e.startFrame.toNat ≤ frame ∧ frame ≤ e.endFrame.toNat := by
  simp [RegionEntry.contains, and_assoc]

theorem RegionEntry.wf_iff {e : RegionEntry} :
    e.wf = true ↔ e.startFrame.toNat ≤ e.endFrame.toNat ∧
      (e.kind = .dynamic → 1 ≤ e.rowPenalty.toNat ∧ e.rowPenalty.toNat ≤ 4) := by
  cases h : e.kind <;> simp [RegionEntry.wf, h]

theorem RegionEntry.isDynamic_iff {e : RegionEntry} :
    e.isDynamic = true ↔ e.enable = true ∧ e.kind = .dynamic := by
  simp [RegionEntry.isDynamic]

theorem anyDynamic_iff {t : Quad RegionEntry} :
    anyDynamic t = true ↔ ∃ n, (dynamicSelects t).get n = true := by
  simp [anyDynamic, dynamicSelects, Quad.any, Quad.map, Fin.exists_fin_succ, Quad.get]
  tauto

theorem unitVerdict_pass_iff {t : Quad RegionEntry} {a b : PhysAddr} {m k : Fin 4} :
    unitVerdict t a b = .pass m k ↔
      regionOf t a = some m ∧ regionOf t b = some k ∧ (t.get k).writeProtect = false := by
  unfold unitVerdict regionVerdict
  cases regionOf t a <;> cases hb : regionOf t b <;> simp
  rename_i x y
  by_cases h : (t.get y).writeProtect = true
  · simp only [h, if_true]
    simp
    rintro - rfl
    exact h
  · simp only [h]
    simp
    rintro - rfl
    simpa using h

theorem closePenalty_stale {t : Quad RegionEntry} {row : OpenRow} {p : Nat} (h : row.stale = some p) :
    closePenalty t row = p := by
  simp [closePenalty, h]

theorem closePenalty_fresh {t : Quad RegionEntry} {row : OpenRow} (h : row.stale = none) :
    closePenalty t row = (t.get row.region).rowPenalty.toNat := by
  simp [closePenalty, h]

theorem RegionEntry.shares_iff {a b : RegionEntry} :
    a.shares b = true ↔ a.startFrame.toNat ≤ b.endFrame.toNat ∧ b.startFrame.toNat ≤ a.endFrame.toNat := by
  simp [RegionEntry.shares]

theorem regionOf_some {t : Quad RegionEntry} {a : PhysAddr} {n : Fin 4} (h : regionOf t a = some n) :
    (t.get n).contains (frameOf a) = true := by
  simpa using List.find?_some h

/-! ### Bytes of a register, low byte first -/

theorem getByte_join16 (v : BitVec 16) : getByte v 1 ++ getByte v 0 = v := by
  have e : (getByte v 1 ++ getByte v 0 : BitVec (8 + 8)).toNat = v.toNat := by
    rw [BitVec.toNat_append, ← Nat.shiftLeft_add_eq_or_of_lt (BitVec.isLt _)]
    simp [getByte, Nat.shiftLeft_eq, Nat.shiftRight_eq_div_pow]
    omega
  exact BitVec.eq_of_toNat_eq e

theorem getByte_join24 (v : BitVec 24) : getByte v 2 ++ getByte v 1 ++ getByte v 0 = v := by
  have e : (getByte v 2 ++ getByte v 1 ++ getByte v 0 : BitVec (8 + 8 + 8)).toNat = v.toNat := by
    rw [BitVec.toNat_append, ← Nat.shiftLeft_add_eq_or_of_lt (BitVec.isLt _), BitVec.toNat_append,
      ← Nat.shiftLeft_add_eq_or_of_lt (BitVec.isLt _)]
    simp [getByte, Nat.shiftLeft_eq, Nat.shiftRight_eq_div_pow]
    omega
  exact BitVec.eq_of_toNat_eq e

/-! ### Claims, grants and the yield -/

theorem Channel.claims_iff {c : Channel} : c.claims = true ↔ ∃ limit, c.port = .claim limit := by
  unfold Channel.claims
  cases c.port <;> simp

theorem Channel.granted_iff {c : Channel} : c.granted = true ↔ ∃ limit moved, c.port = .grant limit moved := by
  unfold Channel.granted
  cases c.port <;> simp

theorem PortRequest.burstOpen_iff {limit moved : Nat} :
    (PortRequest.grant (some limit) moved).burstOpen = true ↔ moved + 1 < limit := by
  simp [PortRequest.burstOpen]

theorem State.yields_iff {s : State} :
    s.yields = true ↔
      s.pbi.phase = .waiting ∨ (1 ≤ s.rpc.debt ∧ s.refreshUrgent = true) ∨ s.rpc.portState ≠ .running := by
  simp [State.yields, State.processorClaim, State.refreshClaim, or_assoc]

/-! ### Register window cycles -/

theorem State.windowCycle_quiet {s : State} (h : s.busQuiet) (f : State → State) :
    s.windowCycle f = f s.released := by
  obtain ⟨hp, hm, hh⟩ := h
  simp [State.windowCycle, State.newCycle, State.released, hp, hm, hh, Phase.busy]

theorem State.windowCycle_busy {s : State} (hh : s.pbi.held = none)
    (hp : s.pbi.phase = .waiting ∨ s.pbi.phase = .access) (f : State → State) :
    s.windowCycle f =
      { s with pbi := { s.pbi with memc := false, held := some .window, readOut := none } } := by
  rcases hp with hp | hp <;>
    cases hm : s.pbi.memc <;>
    simp [State.windowCycle, State.newCycle, State.released, State.endCycle, hp, hm, hh, Phase.busy]

theorem State.windowCycle_held {s : State} (hh : s.pbi.held ≠ none) (f : State → State) : s.windowCycle f = s := by
  simp [State.windowCycle, Option.isSome_iff_ne_none.mpr hh]

theorem State.windowCycle_ends {s : State} (hh : s.pbi.held = none)
    (hp : s.pbi.phase = .passive ∨ s.pbi.phase = .ending) (hm : s.pbi.memc = true) (f : State → State) :
    s.windowCycle f =
      State.windowCycle { s with pbi := { s.pbi with phase := .idle, cycle := none, memc := false } } f := by
  rcases hp with hp | hp <;>
    simp [State.windowCycle, State.newCycle, State.released, State.endCycle, hp, hm, hh, Phase.busy]

/-! ### The release of a channel -/

theorem Channel.adopt_of_free {c : Channel} (h : c.port = .none) :
    c.adopt = { c with inUse := c.stored, latch := c.latch && (c.inUse.sense == c.stored.sense) } := by
  by_cases hs : c.inUse.sense = c.stored.sense <;> simp [Channel.adopt, h, hs]

@[simp] theorem Channel.release_state (c : Channel) : c.release.state = c.state := by rfl

@[simp] theorem Channel.release_queue (c : Channel) : c.release.queue = c.queue := by rfl

@[simp] theorem Channel.release_overrun (c : Channel) : c.release.overrun = c.overrun := by rfl

@[simp] theorem Channel.release_holdPending (c : Channel) : c.release.holdPending = c.holdPending := by rfl

@[simp] theorem Channel.release_flushPending (c : Channel) : c.release.flushPending = c.flushPending := by rfl

@[simp] theorem Channel.release_port (c : Channel) : c.release.port = .none := by rfl

@[simp] theorem Channel.release_stored (c : Channel) : c.release.stored = c.stored := by rfl

@[simp] theorem Channel.release_inUse (c : Channel) : c.release.inUse = c.stored := by rfl

@[simp] theorem Channel.release_offer (c : Channel) : c.release.offer = c.offer := by rfl

@[simp] theorem Channel.release_trq (c : Channel) : c.release.trq = c.trq := by rfl

@[simp] theorem Channel.release_tak (c : Channel) : c.release.tak = false := by rfl

@[simp] theorem Channel.release_tend (c : Channel) : c.release.tend = false := by rfl

@[simp] theorem Channel.release_latch (c : Channel) :
    c.release.latch = (c.latch && (c.inUse.sense == c.stored.sense)) := by
  rw [Channel.release, Channel.adopt_of_free rfl]

/-! ### The fault report -/

/-- A report is taken at the tail or dropped with the overflow flag set, and nothing else changes. -/
theorem State.fileFault_cases (s : State) (r : FaultRecord) :
    s.fileFault r = { s with flog := { s.flog with records := s.flog.records ++ [r] } } ∧ s.flog.records.length < 4 ∨
    s.fileFault r = { s with flog := { s.flog with overflow := true } } ∧ 4 ≤ s.flog.records.length := by
  unfold State.fileFault
  split
  · exact .inl ⟨rfl, by assumption⟩
  · exact .inr ⟨rfl, by omega⟩

theorem State.fileFault_flog (s : State) (r : FaultRecord) :
    s.fileFault r = { s with flog := (s.fileFault r).flog } := by
  rcases s.fileFault_cases r with ⟨h, _⟩ | ⟨h, _⟩ <;> rw [h]

@[simp] theorem State.fileFault_pending (s : State) (r : FaultRecord) : (s.fileFault r).pending = s.pending := by
  rw [s.fileFault_flog r]

@[simp] theorem State.fileFault_pbi (s : State) (r : FaultRecord) : (s.fileFault r).pbi = s.pbi := by
  rw [s.fileFault_flog r]

@[simp] theorem State.fileFault_wtu (s : State) (r : FaultRecord) : (s.fileFault r).wtu = s.wtu := by
  rw [s.fileFault_flog r]

@[simp] theorem State.fileFault_rgd (s : State) (r : FaultRecord) : (s.fileFault r).rgd = s.rgd := by
  rw [s.fileFault_flog r]

@[simp] theorem State.fileFault_parb (s : State) (r : FaultRecord) : (s.fileFault r).parb = s.parb := by
  rw [s.fileFault_flog r]

@[simp] theorem State.fileFault_mseq (s : State) (r : FaultRecord) : (s.fileFault r).mseq = s.mseq := by
  rw [s.fileFault_flog r]

@[simp] theorem State.fileFault_rpc (s : State) (r : FaultRecord) : (s.fileFault r).rpc = s.rpc := by
  rw [s.fileFault_flog r]

@[simp] theorem State.fileFault_txe (s : State) (r : FaultRecord) : (s.fileFault r).txe = s.txe := by
  rw [s.fileFault_flog r]

@[simp] theorem State.fileFault_clog (s : State) (r : FaultRecord) : (s.fileFault r).clog = s.clog := by
  rw [s.fileFault_flog r]

@[simp] theorem State.fileFault_iru (s : State) (r : FaultRecord) : (s.fileFault r).iru = s.iru := by
  rw [s.fileFault_flog r]

@[simp] theorem State.fileFault_win (s : State) (r : FaultRecord) : (s.fileFault r).win = s.win := by
  rw [s.fileFault_flog r]

@[simp] theorem State.fileFault_freeCount (s : State) (r : FaultRecord) : (s.fileFault r).freeCount = s.freeCount := by
  rw [s.fileFault_flog r]

@[simp] theorem State.chan_fileFault (s : State) (r : FaultRecord) (m : Fin 4) :
    (s.fileFault r).chan m = s.chan m := by
  simp only [State.chan, State.fileFault_txe]

theorem State.fileFault_length_le (s : State) (r : FaultRecord) (h : s.flog.records.length ≤ 4) :
    (s.fileFault r).flog.records.length ≤ 4 := by
  rcases s.fileFault_cases r with ⟨he, hl⟩ | ⟨he, hl⟩ <;> rw [he]
  · simpa using hl
  · exact h

/-! ### The unit check -/

theorem State.checkUnit_nil {s : State} {n : Fin 4} (h : (s.chan n).queue = []) : s.checkUnit n = s := by
  simp only [State.checkUnit, h]

theorem State.checkUnit_cons {s : State} {n : Fin 4} {d : Descriptor} {rest : List Descriptor}
    (h : (s.chan n).queue = d :: rest) :
    s.checkUnit n =
      if (s.chan n).state = .busy ∧ (s.chan n).port = .none ∧ (s.chan n).pacingHolds d = true then
        match unitVerdict s.rgd.regions d.curSrc d.curDst with
        | .pass _ _ => s.setChan n { s.chan n with port := .claim ((s.chan n).burstCarried d) }
        | .fail kind dir addr => s.failUnit n kind dir addr
      else s := by
  simp only [State.checkUnit, h] <;> rfl

/-- A check does nothing, raises the claim of channel n, or files one report and faults channel n. -/
theorem State.checkUnit_cases (s : State) (n : Fin 4) :
    s.checkUnit n = s ∨
    (∃ d rest, (s.chan n).queue = d :: rest ∧ (s.chan n).state = .busy ∧ (s.chan n).port = .none ∧
      s.checkUnit n = s.setChan n { s.chan n with port := .claim ((s.chan n).burstCarried d) }) ∨
    (∃ kind dir addr, (s.chan n).state = .busy ∧ (s.chan n).port = .none ∧
      s.checkUnit n = s.failUnit n kind dir addr) := by
  cases hq : (s.chan n).queue with
  | nil => exact .inl (State.checkUnit_nil hq)
  | cons d rest =>
    rw [State.checkUnit_cons hq]
    split
    next hc =>
      split
      next => exact .inr (.inl ⟨d, rest, rfl, hc.1, hc.2.1, rfl⟩)
      next kind dir addr _ => exact .inr (.inr ⟨kind, dir, addr, hc.1, hc.2.1, rfl⟩)
    next => exact .inl rfl

theorem State.failUnit_eq (s : State) (n : Fin 4) (kind : FaultKind) (dir : FaultDir) (addr : PhysAddr) :
    s.failUnit n kind dir addr = { s with
      txe := { s.txe with chans := s.txe.chans.set n { (s.chan n).release with state := .faulted } },
      flog := (s.failUnit n kind dir addr).flog } := by
  simp only [State.failUnit, State.setChan, State.fileFault_pending, State.fileFault_pbi, State.fileFault_wtu,
    State.fileFault_rgd, State.fileFault_parb, State.fileFault_mseq, State.fileFault_rpc, State.fileFault_txe,
    State.fileFault_clog, State.fileFault_iru, State.fileFault_win, State.fileFault_freeCount]

/-- A check touches channel n and the Fault Log alone. -/
theorem State.checkUnit_eq (s : State) (n : Fin 4) :
    s.checkUnit n = { s with
      txe := { s.txe with chans := s.txe.chans.set n ((s.checkUnit n).chan n) },
      flog := (s.checkUnit n).flog } := by
  rcases s.checkUnit_cases n with h | ⟨d, rest, _, _, _, h⟩ | ⟨kind, dir, addr, _, _, h⟩
  · rw [h]
    simp [State.chan]
  · rw [h]
    simp [State.setChan, State.chan]
  · rw [h, State.failUnit_eq]
    simp [State.chan]

@[simp] theorem State.checkUnit_pending (s : State) (n : Fin 4) : (s.checkUnit n).pending = s.pending := by
  rw [s.checkUnit_eq n]

@[simp] theorem State.checkUnit_pbi (s : State) (n : Fin 4) : (s.checkUnit n).pbi = s.pbi := by
  rw [s.checkUnit_eq n]

@[simp] theorem State.checkUnit_wtu (s : State) (n : Fin 4) : (s.checkUnit n).wtu = s.wtu := by
  rw [s.checkUnit_eq n]

@[simp] theorem State.checkUnit_rgd (s : State) (n : Fin 4) : (s.checkUnit n).rgd = s.rgd := by
  rw [s.checkUnit_eq n]

@[simp] theorem State.checkUnit_parb (s : State) (n : Fin 4) : (s.checkUnit n).parb = s.parb := by
  rw [s.checkUnit_eq n]

@[simp] theorem State.checkUnit_mseq (s : State) (n : Fin 4) : (s.checkUnit n).mseq = s.mseq := by
  rw [s.checkUnit_eq n]

@[simp] theorem State.checkUnit_rpc (s : State) (n : Fin 4) : (s.checkUnit n).rpc = s.rpc := by
  rw [s.checkUnit_eq n]

@[simp] theorem State.checkUnit_clog (s : State) (n : Fin 4) : (s.checkUnit n).clog = s.clog := by
  rw [s.checkUnit_eq n]

@[simp] theorem State.checkUnit_iru (s : State) (n : Fin 4) : (s.checkUnit n).iru = s.iru := by
  rw [s.checkUnit_eq n]

@[simp] theorem State.checkUnit_win (s : State) (n : Fin 4) : (s.checkUnit n).win = s.win := by
  rw [s.checkUnit_eq n]

@[simp] theorem State.checkUnit_freeCount (s : State) (n : Fin 4) : (s.checkUnit n).freeCount = s.freeCount := by
  rw [s.checkUnit_eq n]

theorem State.chan_checkUnit_ne (s : State) {n m : Fin 4} (h : m ≠ n) : (s.checkUnit n).chan m = s.chan m := by
  rw [s.checkUnit_eq n]
  exact Quad.get_set_ne s.txe.chans _ h

/-! ### The record taken -/

theorem State.takeRecord_none {s : State} {n : Fin 4} (h : (s.chan n).offer = none) : s.takeRecord n = s := by
  simp only [State.takeRecord, h]

theorem State.takeRecord_some {s : State} {n : Fin 4} {o : Offer} (h : (s.chan n).offer = some o) :
    s.takeRecord n =
      ({ s with
        txe := { s.txe with chans := s.txe.chans.set n ((s.chan n).posted o) },
        clog :=
          { records := s.clog.records ++
              [{ seq := s.clog.nextSeq, channel := n, status := o.status, tag := o.tag, remaining := o.remaining,
                 notify := o.notify }],
            nextSeq := s.clog.nextSeq + 1 } } : State).checkUnit n := by
  simp only [State.takeRecord, h, State.setChan]

/-- A record taken touches the Completion Log, channel n and the Fault Log alone. -/
theorem State.takeRecord_eq (s : State) (n : Fin 4) :
    s.takeRecord n = { s with
      txe := { s.txe with chans := s.txe.chans.set n ((s.takeRecord n).chan n) },
      clog := (s.takeRecord n).clog, flog := (s.takeRecord n).flog } := by
  cases ho : (s.chan n).offer with
  | none =>
    rw [State.takeRecord_none ho]
    simp [State.chan]
  | some o =>
    rw [State.takeRecord_some ho, State.checkUnit_eq]
    simp [State.chan]

@[simp] theorem State.takeRecord_pending (s : State) (n : Fin 4) : (s.takeRecord n).pending = s.pending := by
  rw [s.takeRecord_eq n]

@[simp] theorem State.takeRecord_pbi (s : State) (n : Fin 4) : (s.takeRecord n).pbi = s.pbi := by
  rw [s.takeRecord_eq n]

@[simp] theorem State.takeRecord_wtu (s : State) (n : Fin 4) : (s.takeRecord n).wtu = s.wtu := by
  rw [s.takeRecord_eq n]

@[simp] theorem State.takeRecord_rgd (s : State) (n : Fin 4) : (s.takeRecord n).rgd = s.rgd := by
  rw [s.takeRecord_eq n]

@[simp] theorem State.takeRecord_parb (s : State) (n : Fin 4) : (s.takeRecord n).parb = s.parb := by
  rw [s.takeRecord_eq n]

@[simp] theorem State.takeRecord_mseq (s : State) (n : Fin 4) : (s.takeRecord n).mseq = s.mseq := by
  rw [s.takeRecord_eq n]

@[simp] theorem State.takeRecord_rpc (s : State) (n : Fin 4) : (s.takeRecord n).rpc = s.rpc := by
  rw [s.takeRecord_eq n]

@[simp] theorem State.takeRecord_iru (s : State) (n : Fin 4) : (s.takeRecord n).iru = s.iru := by
  rw [s.takeRecord_eq n]

@[simp] theorem State.takeRecord_win (s : State) (n : Fin 4) : (s.takeRecord n).win = s.win := by
  rw [s.takeRecord_eq n]

@[simp] theorem State.takeRecord_freeCount (s : State) (n : Fin 4) : (s.takeRecord n).freeCount = s.freeCount := by
  rw [s.takeRecord_eq n]

theorem State.chan_takeRecord_ne (s : State) {n m : Fin 4} (h : m ≠ n) : (s.takeRecord n).chan m = s.chan m := by
  rw [s.takeRecord_eq n]
  exact Quad.get_set_ne s.txe.chans _ h

/-! ### Work on the port -/

theorem State.beginWork_some {s : State} {w : Work} {k : OpKind}
    (h : nextKind s.rgd.regions s.mseq.record w = some k) : s.beginWork w = s.startOp w k := by
  simp only [State.beginWork, h]

/-- The next operation of a piece of work touches MSEQ alone. -/
theorem State.beginWork_eq (s : State) (w : Work) : s.beginWork w = { s with mseq := (s.beginWork w).mseq } := by
  unfold State.beginWork
  split <;> rfl

@[simp] theorem Work.mapAccess_id (w : Work) : w.mapAccess (fun a => a) = w := by cases w <;> rfl

@[simp] theorem Work.access_mapAccess (f : Access → Access) (w : Work) :
    (w.mapAccess f).access = w.access.map f := by cases w <;> rfl

@[simp] theorem Work.accesses_mapAccess (f : Access → Access) (w : Work) :
    (w.mapAccess f).accesses = w.accesses.map f := by cases w <;> rfl

@[simp] theorem Work.data_mapAccess (f : Access → Access) (w : Work) : (w.mapAccess f).data = w.data := by
  cases w <;> rfl

/-! ### The check of a waiting unit -/

/-- A waiting unit fails exactly when R109 asks for a report of it. -/
theorem State.claimFails_eq (s : State) (n : Fin 4) :
    s.claimFails n = (s.waitingReport s.rgd.regions n).isSome := by
  unfold State.claimFails State.waitingReport
  cases hc : (s.chan n).claims <;> simp [hc]
  cases hq : (s.chan n).queue with
  | nil => simp
  | cons d rest =>
    simp [unitVerdict, unitReport, regionVerdict]
    cases h1 : regionOf s.rgd.regions d.curSrc <;> simp
    cases h2 : regionOf s.rgd.regions d.curDst <;> simp
    rename_i m k
    cases h3 : (s.rgd.regions.get k).writeProtect <;> simp

theorem State.recheckClaim_none {s : State} {n : Fin 4} (h : s.waitingReport s.rgd.regions n = none) :
    s.recheckClaim n = s := by
  unfold State.recheckClaim
  rw [if_neg (by rw [State.claimFails_eq, h]; decide)]

/-- A waiting unit that fails files that report, and its channel is released and FAULTED. -/
theorem State.recheckClaim_some {s : State} {n : Fin 4} {r : FaultRecord}
    (h : s.waitingReport s.rgd.regions n = some r) :
    s.recheckClaim n = (s.fileFault r).setChan n { (s.chan n).release with state := .faulted } := by
  have hf : s.claimFails n = true := by rw [State.claimFails_eq, h]; rfl
  unfold State.recheckClaim
  rw [if_pos hf]
  unfold State.waitingReport at h
  cases hc : (s.chan n).claims <;> simp [hc] at h
  cases hq : (s.chan n).queue with
  | nil => simp [hq] at h
  | cons d rest =>
    simp [hq, unitReport] at h
    simp [unitVerdict, regionVerdict]
    cases h1 : regionOf s.rgd.regions d.curSrc <;> simp [h1] at h ⊢
    · simp [State.failUnit, Channel.headTag, hq, h]
    cases h2 : regionOf s.rgd.regions d.curDst <;> simp [h2] at h ⊢
    · simp [State.failUnit, Channel.headTag, hq, h]
    rename_i m k
    cases h3 : (s.rgd.regions.get k).writeProtect <;> simp [h3] at h ⊢
    · simp [State.failUnit, Channel.headTag, hq, h]

/-! ### The orders of several reports -/

/-- Whatever number selects the order, the same things stand in it. -/
theorem orderBy_perm {α : Type} (k : Nat) (l : List α) : (orderBy k l).Perm l := by
  induction l generalizing k with
  | nil => exact .refl _
  | cons x xs ih =>
    unfold orderBy
    dsimp only
    refine List.perm_middle.trans (.cons x ?_)
    rw [List.take_append_drop]
    exact ih _

/-! ### The sequence numbers -/

theorem seqRun_append (l : List CompletionRecord) (r : CompletionRecord) (next : Byte) (h : seqRun l next)
    (hr : r.seq = next) : seqRun (l ++ [r]) (next + 1) := by
  induction l with
  | nil => exact ⟨by simp [hr], trivial⟩
  | cons x xs ih =>
    obtain ⟨hx, hrest⟩ := h
    refine ⟨?_, ih hrest⟩
    have hlen : (xs.append [r]).length = xs.length + 1 := by simp
    rw [← hx, hlen]
    have h1 : (1 : Byte).toNat = 1 := by rfl
    apply BitVec.eq_of_toNat_eq
    simp only [BitVec.toNat_add, BitVec.toNat_ofNat, h1]
    omega

theorem seqRun_tail {r : CompletionRecord} {l : List CompletionRecord} {next : Byte} (h : seqRun (r :: l) next) :
    seqRun l next := h.2

end Sys2Proof.Machine
end

