-- ==== Sys2Proof/Laws/PerInstr.lean ====
section
/-! SUPPORT. One lemma per command, in the forms the host's case split asks for: the family WindowOffset says that
the register window write a well-formed command makes goes to an offset that can be written (R154, 11.6). -/
namespace Sys2Proof.Laws.WindowOffset

/-- A well-formed command that is a register window write writes a strobe or a read-write register. -/
def Statement (i : Instr) : Prop :=
  ∀ (o : Offset) (d : Byte), i.windowWrite = some (o, d) → i.wf = true →
    o.access = .strobe ∨ o.access = .readWrite

/-- A command that writes at an offset of one of the two kinds. -/
theorem of_write {i : Instr} {o : Offset} {d : Byte} (hw : i.windowWrite = some (o, d))
    (ha : o.access = .strobe ∨ o.access = .readWrite) : Statement i := by
  intro o' d' h _
  rw [hw] at h
  cases h
  exact ha

/-- A command that is no register window write. -/
theorem of_none {i : Instr} (hw : i.windowWrite = none) : Statement i := by
  intro o d h _
  rw [hw] at h
  cases h

/-- Every plain register is a read-write register. -/
theorem plain_access : ∀ o : Offset, o.plain = true → o.access = .readWrite := by decide +kernel

theorem enq (data : Byte) : Statement (.enq data) := of_write rfl (by decide)

theorem start (data : Byte) : Statement (.start data) := of_write rfl (by decide)

theorem hold (data : Byte) : Statement (.hold data) := of_write rfl (by decide)

theorem resume (data : Byte) : Statement (.resume data) := of_write rfl (by decide)

theorem skip (data : Byte) : Statement (.skip data) := of_write rfl (by decide)

theorem flush (data : Byte) : Statement (.flush data) := of_write rfl (by decide)

theorem wload (data : Byte) : Statement (.wload data) := of_write rfl (by decide)

theorem wread (data : Byte) : Statement (.wread data) := of_write rfl (by decide)

theorem rload (data : Byte) : Statement (.rload data) := of_write rfl (by decide)

theorem rread (data : Byte) : Statement (.rread data) := of_write rfl (by decide)

theorem logpop (data : Byte) : Statement (.logpop data) := of_write rfl (by decide)

theorem fltpop (data : Byte) : Statement (.fltpop data) := of_write rfl (by decide)

theorem park (data : Byte) : Statement (.park data) := of_write rfl (by decide)

theorem wake (data : Byte) : Statement (.wake data) := of_write rfl (by decide)

theorem ctlrst (data : Byte) : Statement (.ctlrst data) := of_write rfl (by decide)

theorem chstatRead (off : Offset) : Statement (.chstatRead off) := of_none rfl

theorem rfintWrite (high : Bool) (data : Byte) : Statement (.rfintWrite high data) := by
  cases high
  · exact of_write rfl (by decide)
  · exact of_write rfl (by decide)

theorem rfurgWrite (data : Byte) : Statement (.rfurgWrite data) := of_write rfl (by decide)

theorem chcfgWrite (data : Byte) : Statement (.chcfgWrite data) := of_write rfl (by decide)

theorem intcauseWrite (data : Byte) : Statement (.intcauseWrite data) := of_write rfl (by decide)

theorem intenWrite (data : Byte) : Statement (.intenWrite data) := of_write rfl (by decide)

theorem arbmodeWrite (data : Byte) : Statement (.arbmodeWrite data) := of_write rfl (by decide)

theorem registerWrite (off : Offset) (data : Byte) : Statement (.registerWrite off data) := by
  intro o d h hw
  cases h
  exact Or.inr (plain_access off hw)

theorem pinReset : Statement .pinReset := of_none rfl

theorem memoryCycle (pins : BusPins) : Statement (.memoryCycle pins) := of_none rfl

theorem heldCycleServed (pins : BusPins) : Statement (.heldCycleServed pins) := of_none rfl

theorem cycleEnd : Statement .cycleEnd := of_none rfl

theorem trqAssert (n : Fin 4) : Statement (.trqAssert n) := of_none rfl

theorem trqDeassert (n : Fin 4) : Statement (.trqDeassert n) := of_none rfl

theorem portGrant : Statement .portGrant := of_none rfl

theorem accessComplete (md : Byte) : Statement (.accessComplete md) := of_none rfl

theorem unitReadComplete (md : Byte) : Statement (.unitReadComplete md) := of_none rfl

theorem unitComplete : Statement .unitComplete := of_none rfl

theorem pendingFlagsActed (n : Fin 4) : Statement (.pendingFlagsActed n) := of_none rfl

theorem configurationInUse (n : Fin 4) : Statement (.configurationInUse n) := of_none rfl

theorem completionRecordTaken : Statement .completionRecordTaken := of_none rfl

theorem rowOpen : Statement .rowOpen := of_none rfl

theorem rowClose : Statement .rowClose := of_none rfl

theorem timeout : Statement .timeout := of_none rfl

theorem residualEnd : Statement .residualEnd := of_none rfl

theorem refresh : Statement .refresh := of_none rfl

theorem intervalTimerExpiry : Statement .intervalTimerExpiry := of_none rfl

theorem parkStep : Statement .parkStep := of_none rfl

theorem selfRefreshEnter : Statement .selfRefreshEnter := of_none rfl

theorem selfRefreshExit : Statement .selfRefreshExit := of_none rfl

end Sys2Proof.Laws.WindowOffset
end

