-- ==== Sys2Proof/Tests/Slice0.lean ====
section
/-! SUPPORT. Tests on small states: which commands are well formed; one or two steps of each command against the
values the spec gives; and, for every statement with hypotheses, concrete states and operands that meet them clause
by clause (`witness_<statement>`), at boundary values. -/
namespace Sys2Proof.Tests
open Sys2Proof Sys2Proof.Machine

set_option Elab.async false

/-! ### Well-formed commands -/

theorem test_wf_plain_register : (Instr.registerWrite 0x12 0xFF).wf = true := by decide
theorem test_illformed_register_write_of_a_strobe : (Instr.registerWrite 0x0A 0x00).wf = false := by decide
theorem test_illformed_register_write_with_a_row_of_its_own :
    (Instr.registerWrite 0x1D 0x04).wf = false ∧ (Instr.registerWrite 0x46 0x04).wf = false := by decide
theorem test_illformed_register_write_read_only : (Instr.registerWrite 0x10 0x00).wf = false := by decide
theorem test_illformed_register_write_unused : (Instr.registerWrite 0x7F 0x00).wf = false := by decide

theorem test_wf_a_read_names_any_offset : (Instr.chstatRead 0x10).wf = true := by decide

/-! ### Small states -/

/-- The part after pin reset: region 0 is STATIC, frames 000h to 0FFh, wait 7, ready enable. -/
def r : State := State.reset

/-- The state a command leaves. -/
def run (c : Instr) (s : State) : State := nextOr s (exec c s)

/-- A FREE head of `k` units from 000100h up to 000200h. -/
def free (k : BitVec 16) : Descriptor :=
  { curSrc := 0x000100, curDst := 0x000200, remaining := k, srcStep := .inc, dstStep := .inc, pacing := .free,
    notify := true, stopAfter := false, endSignal := true, tag := 0x5A }

/-- The same, PACED. -/
def paced (k : BitVec 16) : Descriptor := { free k with pacing := .paced }

/-- A FREE head whose source lies in no region. -/
def lost (k : BitVec 16) : Descriptor := { free k with curSrc := 0x100000 }

/-- Channel n in state `st` with the queue `q`. -/
def withQueue (n : Fin 4) (st : ChanState) (q : List Descriptor) : State :=
  r.setChan n { Channel.reset false with state := st, queue := q }

/-- Channel n with a claim. -/
def claiming (n : Fin 4) (d : Descriptor) (limit : Option Nat) : State :=
  r.setChan n { Channel.reset false with state := .busy, queue := [d], port := .claim limit }

/-- The two ends of a unit of region 0. -/
def src : Access := captureAccess r.rgd.regions .read 0x000100 0
def dst : Access := captureAccess r.rgd.regions .write 0x000200 0

/-- Channel n with the grant and an operation of its unit in progress. -/
def granted (n : Fin 4) (d : Descriptor) (limit : Option Nat) (o : Operation) : State :=
  let s := r.setChan n { Channel.reset false with state := .busy, queue := [d], port := .grant limit 0 }
  { s with parb := { s.parb with holder := .channel n }, mseq := { s.mseq with op := some o } }

/-- The READ and the WRITE of a unit of channel n. -/
def unitRead (n : Fin 4) : Operation := ⟨.read, 1, .unitRead n src dst⟩
def unitWrite (n : Fin 4) : Operation := ⟨.write, 1, .unitWrite n dst 0xAB⟩

/-- A record of the Completion Log, and a log full of them. -/
def rec1 : CompletionRecord :=
  { seq := 0, channel := 1, status := .done, tag := 0x11, remaining := 0, notify := true }
def full : Clog := { records := List.replicate 16 rec1, nextSeq := 16 }

/-- A fault record. -/
def flt : FaultRecord :=
  { source := .channel 3, kind := .protect, dir := .write, logical := none, physical := some 0x012345,
    tag := some 0x77 }

/-- Region 1 as a DYNAMIC region of frames 100h to 1FFh, row size 1024, row penalty 3. -/
def dyn : RegionEntry :=
  { enable := true, startFrame := 0x100, endFrame := 0x1FF, kind := .dynamic, wait := 1, writeProtect := false,
    readyEnable := false, rowSize := .b1024, rowPenalty := 3 }

/-- The part with that region. -/
def rd : State := { r with rgd := { r.rgd with regions := r.rgd.regions.set 1 dyn } }

/-- An access to it, and its row. -/
def dynAccess (dir : Direction) : Access := captureAccess rd.rgd.regions dir 0x100400 1
def row1 : OpenRow := { region := 1, row := 1, addr := 0x100400, stale := none }
def stale1 : OpenRow := { row1 with stale := some 3 }

/-- The same with an open row, or with the port in some state. -/
def withRow (row : Option OpenRow) (s : State) : State := { s with mseq := { s.mseq with record := row } }
def withPort (p : PortState) (s : State) : State := { s with rpc := { s.rpc with portState := p } }
def withOp (o : Operation) (h : Holder) (s : State) : State :=
  { s with mseq := { s.mseq with op := some o }, parb := { s.parb with holder := h } }
def withDebt (k : Nat) (s : State) : State := { s with rpc := { s.rpc with debt := k } }
def withTimer (t : Option Nat) (s : State) : State := { s with rpc := { s.rpc with timer := t } }

/-- A READ of 0100h, claimed and granted. -/
def cyc : CycleRecord :=
  { dir := .read, logical := 0x0100, physical := some 0x000100, region := some 0, writeData := none,
    readData := none }
def inPhase (p : Phase) (memc : Bool) (held : Option HeldCycle) : State :=
  { r with pbi := { r.pbi with phase := p, cycle := some cyc, memc := memc, held := held } }
def accessing : State := withOp ⟨.read, 1, .processor src 0⟩ .processor (inPhase .access true none)

/-- The pins of a read and of a write. -/
def rdPins (a : LogAddr) : BusPins := { rd := true, wr := false, addr := a, data := 0 }
def wrPins (a : LogAddr) (b : Byte) : BusPins := { rd := false, wr := true, addr := a, data := b }

/-! ### The commands, one step each -/

theorem test_enq_ready_goes_busy_and_claims :
    let s := { withQueue 2 .ready [] with
      txe := { (withQueue 2 .ready []).txe with staging := ⟨0x000100, 0x000200, 3, 0xA0, 0x5A⟩ } }
    (run (.enq 2) s).chan 2 =
      { Channel.reset false with state := .busy, queue := [free 3], port := .claim (some 4) } := by decide +kernel

theorem test_enq_zero_count_is_a_bad_record : (run (.enq 0) r).readRegister 0x10 = 6 := by decide +kernel

theorem test_start_empty_is_ready : ((run (.start 3) r).chan 3).state = .ready := by decide +kernel

theorem test_start_source_unmapped_faults :
    let t := run (.start 0) (withQueue 0 .off [lost 1])
    (t.chan 0).state = .faulted ∧ t.readRegister 0x38 = 1 ∧ t.readRegister 0x39 = 0x32 ∧
      t.readRegister 0x3E = 0x10 ∧ t.readRegister 0x3F = 0x5A := by decide +kernel

theorem test_hold_with_a_grant_is_pending :
    let t := run (.hold 1) (granted 1 (free 3) (some 4) (unitRead 1))
    (t.chan 1).holdPending = true ∧ (t.chan 1).state = .busy := by decide +kernel

theorem test_hold_withdraws_a_claim :
    let t := run (.hold 1) (claiming 1 (free 3) (some 4))
    (t.chan 1).port = .none ∧ (t.chan 1).state = .held := by decide +kernel

theorem test_resume_retries_a_paced_head :
    ((run (.resume 0) (withQueue 0 .faulted [paced 2])).chan 0).port = .claim none := by decide +kernel

theorem test_skip_posts_aborted_and_holds :
    let t := run (.skip 0) (withQueue 0 .faulted [free 2, free 1])
    (t.chan 0).state = .held ∧ (t.chan 0).queue = [free 1] ∧ t.readRegister 0x32 = 0x0C := by decide +kernel

theorem test_flush_counts :
    let t := run (.flush 0) (withQueue 0 .held [free 2, free 1])
    t.readRegister 0x11 = 2 ∧ (t.chan 0).state = .off := by decide +kernel

theorem test_wload_takes_the_staged_record :
    let s := { r with wtu := { r.wtu with staging := ⟨0x0E, 2, 0x0FFE, 7⟩ } }
    (run (.wload 7) s).wtu.windows.get 7 =
      { enable := true, basePage := 0xE, pageCount := 2, frameBase := 0xFFE, readRight := true,
        writeRight := true } := by decide +kernel

theorem test_wread_of_w0_after_reset :
    (run (.wread 0) r).wtu.staging = ⟨0, 16, 0, 7⟩ := by decide +kernel

theorem test_rload_of_a_dynamic_region_starts_the_timer :
    let s := { r with rgd := { r.rgd with staging := ⟨0x100, 0x1FF, 0x0B, 0x19⟩ },
                      rpc := { r.rpc with rfint := 15 } }
    (run (.rload 1) s).rgd.regions.get 1 = dyn ∧ (run (.rload 1) s).rpc.timer = some 16 := by decide +kernel

theorem test_rload_marks_the_open_row_stale :
    let s := withRow (some row1) { rd with rgd := { rd.rgd with staging := ⟨0x100, 0x1FE, 0x0B, 0x19⟩ } }
    (run (.rload 1) s).mseq.record = some stale1 := by decide +kernel

theorem test_rread_of_region_0_after_reset :
    (run (.rread 0) r).rgd.staging = ⟨0, 0xFF, 1, 0x8F⟩ := by decide +kernel

theorem test_logpop_hands_the_slot_to_the_lowest_waiting_channel :
    let s := { withQueue 2 .posting [free 0] with clog := full }
    let s := s.setChan 2 { s.chan 2 with offer := some ⟨.done, 0x5A, 0, true⟩ }
    let t := run (.logpop 0xFF) s
    t.clog.records.length = 16 ∧ t.clog.nextSeq = 17 ∧ (t.chan 2).state = .ready := by decide +kernel

theorem test_fltpop_shows_the_next_record :
    let t := run (.fltpop 0) { r with flog := { records := [flt, { flt with tag := none }], overflow := true } }
    t.readRegister 0x38 = 1 ∧ t.readRegister 0x39 = 0xD4 ∧ t.flog.overflow = true := by decide +kernel

theorem test_park_begins_the_park_step :
    let t := run (.park 0) rd
    t.rpc.portState = .draining ∧ t.rpc.parkStep = true ∧
      t.mseq.op = some ⟨.selfRefreshEnter, 4, .enter ⟨false, true, false, false⟩⟩ := by decide +kernel

theorem test_wake_takes_128_clocks :
    (run (.wake 0) (withPort .parked rd)).mseq.op =
      some ⟨.selfRefreshExit, 128, .wakeUp ⟨false, true, false, false⟩⟩ := by decide +kernel

theorem test_ctlrst_leaves_the_operation_to_residual :
    let t := run (.ctlrst 0) (granted 1 (free 3) (some 4) (unitWrite 1))
    t.parb.holder = .residual ∧ t.mseq.op = some (unitWrite 1) ∧ (t.chan 1).state = .off := by decide +kernel

theorem test_chstat_read_of_a_held_channel :
    (run .chstatRead (withQueue 0 .held [free 2, free 1])).dataBus = some 0x32 := by decide +kernel

theorem test_register_read_drives_and_releases :
    let s := r.setResult .badState
    (run (.chstatRead 0x10) s).dataBus = some 5 ∧ (run .cycleEnd (run (.chstatRead 0x10) s)).dataBus = none := by
  decide +kernel

theorem test_rfint_write_low_values_give_16_clocks :
    (run (.rfintWrite false 1) rd).rpc.timer = some 16 ∧
      (run (.rfintWrite true 0xFF) rd).rpc.timer = some 0xF00 := by decide +kernel

theorem test_rfurg_write_ignores_9 :
    (run (.rfurgWrite 8) r).rpc.rfurg = 8 ∧ (run (.rfurgWrite 9) r).rpc.rfurg = 4 := by decide +kernel

theorem test_chcfg_write_ignores_17 :
    (run (.chcfgWrite 0x90) r).readRegister 0x1D = 0x90 ∧ (run (.chcfgWrite 0x91) r).readRegister 0x1D = 4 := by
  decide +kernel

theorem test_intcause_write_clears_lost_alone :
    let t := run (.intcauseWrite 0x07) { r with iru := { r.iru with lost := true, port := true } }
    t.readRegister 0x4E = 0x08 := by decide +kernel

theorem test_inten_write_raises_irq :
    (run (.intenWrite 0xFF) { r with iru := { r.iru with port := true } }).irq = true := by decide +kernel

theorem test_arbmode_write : (run (.arbmodeWrite 0xFF) r).readRegister 0x4C = 1 := by decide +kernel

theorem test_register_write_of_one_byte_keeps_the_others :
    (run (.registerWrite 0x01 0xAB) { r with
      txe := { r.txe with staging := ⟨0x112233, 0, 0, 0, 0⟩ } }).txe.staging.dsrc = 0x11AB33 := by decide +kernel

theorem test_pin_reset_from_parked : run .pinReset (withPort .parked (withDebt 8 rd)) = r := by decide +kernel

theorem test_memory_cycle_waits_with_its_claim :
    let t := run (.memoryCycle (wrPins 0x1234 0x99)) r
    t.pbi.phase = .waiting ∧ t.whit = true ∧ t.pwait = true ∧
      t.pbi.cycle = some ⟨.write, 0x1234, some 0x001234, some 0, some 0x99, none⟩ := by decide +kernel

theorem test_memory_cycle_with_neither_strobe_is_passive :
    (run (.memoryCycle ⟨false, false, 0, 0⟩) r).pbi.phase = .passive := by decide +kernel

theorem test_held_cycle_served_reads_the_register_then :
    let s := { r with pbi := { r.pbi with held := some .window } }
    (run (.heldCycleServed (rdPins 0x46)) s).dataBus = some 4 := by decide +kernel

theorem test_cycle_end_releases_whit :
    (run .cycleEnd (inPhase .ending true none)).pbi = Pbi.reset := by decide +kernel

theorem test_trq_assert_overrun_faults_a_busy_channel :
    let s := withQueue 0 .busy [paced 2]
    let s := s.setChan 0 { s.chan 0 with latch := true, port := .claim none }
    let t := run (.trqAssert 0) s
    (t.chan 0).state = .faulted ∧ (t.chan 0).overrun = true ∧ t.readRegister 0x39 = 0x27 := by decide +kernel

theorem test_trq_deassert_withdraws_a_level_claim :
    let s := (claiming 0 (paced 2) none)
    let s := s.setChan 0 { s.chan 0 with trq := true, stored := ⟨.level, 4⟩, inUse := ⟨.level, 4⟩ }
    ((run (.trqDeassert 0) s).chan 0).port = .none := by decide +kernel

theorem test_port_grant_of_a_paced_claim :
    let s := (claiming 3 (paced 2) none)
    let t := run .portGrant (s.setChan 3 { s.chan 3 with latch := true })
    t.parb.holder = .channel 3 ∧ t.takPin 3 = true ∧ (t.chan 3).latch = false ∧
      t.mseq.op = some ⟨.read, 9, .unitRead 3 src dst⟩ ∧ t.rsel 0 = true := by decide +kernel

theorem test_access_complete_drives_the_byte :
    let t := run (.accessComplete 0xC3) accessing
    t.dataBus = some 0xC3 ∧ t.parb.holder = .none ∧ t.pwait = false := by decide +kernel

/-- An extension count put in. -/
def extended (k : Nat) (s : State) : State := { s with mseq := { s.mseq with extension := k } }

theorem test_access_complete_after_255_clocks_of_extension_and_no_more :
    (run (.accessComplete 0xC3) (extended 255 accessing)).dataBus = some 0xC3 ∧
      run (.accessComplete 0xC3) (extended 256 accessing) = extended 256 accessing := by decide +kernel

theorem test_unit_read_complete_begins_the_write_with_tend :
    let t := run (.unitReadComplete 0xAB) (granted 1 (free 1) (some 4) (unitRead 1))
    t.mseq.op = some ⟨.write, 9, .unitWrite 1 dst 0xAB⟩ ∧ t.tendPin = true ∧ t.mdOut = some 0xAB := by
  decide +kernel

theorem test_unit_complete_posts_the_last_unit :
    let t := run .unitComplete (granted 1 (free 1) (some 4) (unitWrite 1))
    t.clog.records = [⟨0, 1, .done, 0x5A, 0, true⟩] ∧ (t.chan 1).state = .ready ∧ t.parb.holder = .none := by
  decide +kernel

theorem test_unit_complete_goes_on_with_the_burst :
    let t := run .unitComplete (granted 1 (free 3) (some 4) (unitWrite 1))
    t.parb.holder = .channel 1 ∧ (t.chan 1).port = .grant (some 4) 1 := by decide +kernel

theorem test_pending_flags_acted_takes_a_flush :
    let s := withQueue 1 .busy [free 2]
    ((run (.pendingFlagsActed 1) (s.setChan 1 { s.chan 1 with flushPending := true })).chan 1).state = .off := by
  decide +kernel

theorem test_configuration_in_use_clears_the_latch_on_a_change_of_sense :
    let s := r.setChan 1 { r.chan 1 with latch := true, stored := ⟨.level, 2⟩ }
    (run (.configurationInUse 1) s).chan 1 =
      { r.chan 1 with stored := ⟨.level, 2⟩, inUse := ⟨.level, 2⟩ } := by decide +kernel

theorem test_completion_record_taken_serves_the_lowest :
    let s := withQueue 2 .posting [free 0]
    let t := run .completionRecordTaken (s.setChan 2 { s.chan 2 with offer := some ⟨.done, 0x5A, 0, true⟩ })
    t.clog.records.length = 1 ∧ t.irq = false ∧ t.readRegister 0x4E = 1 := by decide +kernel

theorem test_row_open_writes_the_record :
    let t := run .rowOpen (withOp ⟨.rowOpen, 1, .processor (dynAccess .read) 0⟩ .processor rd)
    t.mseq.record = some row1 ∧ t.mseq.op = some ⟨.read, 3, .processor (dynAccess .read) 0⟩ := by decide +kernel

theorem test_row_close_goes_on_to_the_refresh :
    let w : Work := .refresh ⟨false, true, false, false⟩
    let t := run .rowClose (withRow (some row1) (withOp ⟨.rowClose row1 3, 1, w⟩ .refresh rd))
    t.mseq.record = none ∧ t.mseq.op = some ⟨.refresh, 6, w⟩ := by decide +kernel

theorem test_timeout_reads_ff_and_files_the_fault :
    let t := run .timeout accessing
    t.dataBus = some 0xFF ∧ t.readRegister 0x39 = 0x1D ∧ t.parb.holder = .none := by decide +kernel

theorem test_timeout_under_residual_files_nothing :
    let t := run .timeout (withRow (some row1) (withOp (unitWrite 1) .residual rd))
    t.flog = Flog.reset ∧ t.mseq.op = some ⟨.rowClose row1 3, 3, .timeoutClose⟩ ∧ t.parb.holder = .residual := by
  decide +kernel

theorem test_residual_end_frees_the_port :
    (run .residualEnd (withOp (unitWrite 1) .residual r)).parb.holder = .none := by decide +kernel

theorem test_refresh_pays_one :
    let s := withDebt 3 (withOp ⟨.refresh, 1, .refresh ⟨false, true, false, false⟩⟩ .refresh rd)
    (run .refresh s).rpc.debt = 2 := by decide +kernel

theorem test_expiry_at_debt_8_sets_lost :
    let t := run .intervalTimerExpiry (withDebt 8 (withTimer (some 1) { rd with rpc := { rd.rpc with rfint := 20 } }))
    t.rpc.debt = 8 ∧ t.iru.lost = true ∧ t.rpc.timer = some 20 := by decide +kernel

/-- An expiry taken before the park step raises the debt, and no park step is due (log 33). -/
theorem test_expiry_before_the_park_step_delays_it :
    (withPort .draining rd).parkStepDue = true ∧
    (run .intervalTimerExpiry (withTimer (some 1) (withPort .draining rd))).parkStepDue = false := by decide +kernel

theorem test_park_step_without_dynamic_regions_parks_at_once :
    let t := run .parkStep (withPort .draining r)
    t.rpc.portState = .parked ∧ t.rpc.sref = true ∧ t.iru.port = true := by decide +kernel

theorem test_self_refresh_enter_parks :
    let s := withOp ⟨.selfRefreshEnter, 1, .enter ⟨false, true, false, false⟩⟩ .none (withPort .draining rd)
    (run .selfRefreshEnter { s with rpc := { s.rpc with parkStep := true } }).readRegister 0x47 = 0x20 := by
  decide +kernel

theorem test_self_refresh_exit_runs_again :
    let s := withOp ⟨.selfRefreshExit, 1, .wakeUp ⟨false, true, false, false⟩⟩ .none (withPort .waking rd)
    let t := run .selfRefreshExit { s with rpc := { s.rpc with wakeCause := some .strobe, rfint := 40 } }
    t.rpc.portState = .running ∧ t.rpc.timer = some 40 ∧ t.iru.port = true := by decide +kernel

/-! ### What meets the hypotheses of the statements -/

theorem witness_StepRunsFrontCommand :
    ({ r with pending := [.wake 0, .park 0] } : State).pending = .wake 0 :: [.park 0] :=
  rfl

/-- A REFRESH and the wake in progress. -/
def refreshing (left : Nat) : State := withOp ⟨.refresh, left, .refresh ⟨false, true, false, false⟩⟩ .refresh rd
def exiting : State := withOp ⟨.selfRefreshExit, 1, .wakeUp ⟨false, true, false, false⟩⟩ .none (withPort .waking rd)

/-- RFINT 20 and an expiry in the clock that ends the operation. -/
def expiring (left k : Nat) : State :=
  withTimer (some k) { refreshing left with rpc := { rd.rpc with rfint := 20 } }

theorem witness_IdleStepCountsOneClock :
    ((withPort .draining r).pending = [] ∧ (withPort .draining r).parkStepDue = true) ∧
    ((withDebt 1 r).parkStepDue = false ∧ (withDebt 1 r).parb.holder = .none ∧ (withDebt 1 r).decision ≠ none) ∧
    (r.nothingDue ∧ r.mseq.op = none ∧ (withTimer (some 1) r).nothingDue ∧ (withTimer (some 2) r).nothingDue) ∧
    ((expiring 2 2).nothingDue ∧ (expiring 2 1).nothingDue ∧ (expiring 2 1).rpc.timer = some 1) ∧
    ((refreshing 1).nothingDue ∧ (refreshing 0).nothingDue ∧ (refreshing 1).rpc.timer = none ∧
      (expiring 1 1).pending = [] ∧ (expiring 1 1).nothingDue) ∧
    (exiting.nothingDue ∧ exiting.rpc.timer = none ∧ exiting.pending = []) ∧
    (accessing.nothingDue ∧ accessing.mseq.op = some ⟨.read, 1, .processor src 0⟩ ∧ src.entry.readyEnable = true ∧
      (extended 255 accessing).nothingDue ∧ 256 ≤ (extended 256 accessing).mseq.extension ∧
      (dynAccess .read).entry.readyEnable = false ∧
      (withOp ⟨.read, 1, .processor (dynAccess .read) 0⟩ .processor rd).nothingDue) := by decide +kernel

theorem witness_IdleStepCountsOneClock_port : (expiring 1 1).PortOk := by decide +kernel

/-- The step does what the ready extension asks for at its end, and keeps a cycle held in IDLE. -/
theorem test_idle_step_times_out_after_256_clocks :
    step (extended 256 accessing) = exec .timeout (extended 256 accessing) := by rfl

theorem test_idle_step_keeps_a_held_cycle :
    step { r with pbi := { r.pbi with held := some .window } } =
      .next { r with pbi := { r.pbi with held := some .window } } := by rfl

/-- A state that meets every invariant and has a command waiting. -/
def waitingEnq : State := { rd with pending := [.enq 0] }

theorem witness_StepKeepsEveryInvariant : waitingEnq.Inv ∧ ∃ t, step waitingEnq = .next t :=
  ⟨⟨by decide +kernel, by decide +kernel, trivial, by decide +kernel, by decide +kernel, by decide +kernel,
    by decide +kernel, by decide +kernel⟩, _, rfl⟩

theorem witness_StepKeepsTablesWellFormed : waitingEnq.TablesOk := witness_StepKeepsEveryInvariant.1.tables
theorem witness_StepKeepsCapacities : waitingEnq.CapacityOk := witness_StepKeepsEveryInvariant.1.capacity
theorem witness_StepKeepsChannelsInOrder : waitingEnq.ChannelsOk := witness_StepKeepsEveryInvariant.1.channels

/-- A log whose numbers pass from FFh to 00h. -/
theorem witness_StepKeepsSequenceNumbersConsecutive :
    ({ r with clog := { records := [{ rec1 with seq := 0xFF }, rec1], nextSeq := 1 } } : State).SequenceOk :=
  ⟨by decide, by decide, trivial⟩

theorem witness_CyclesOnABusyBus :
    isWindowCycle (.wake 0) = true ∧ isWindowCycle (.chstatRead 0x7F) = true ∧
    ((inPhase .waiting true none).pbi.held = none ∧ (inPhase .access false none).pbi.phase = .access) ∧
    (inPhase .waiting false (some .window)).pbi.held ≠ none ∧
    ((inPhase .passive true none).pbi.phase = .passive ∧ (inPhase .ending true none).pbi.memc = true) := by
  decide +kernel

theorem witness_PlainRegisterWriteStoresItsByte :
    r.busQuiet ∧ Offset.plain 0x00 = true ∧ Offset.plain 0x12 = true ∧ Offset.plain 0x24 = true ∧
      Offset.plain 0x2D = true := by decide +kernel

theorem witness_RegisterWriteElsewhereFollowsTheMap :
    (Instr.rfintWrite true 0xFF).windowWrite = some (0x45, 0xFF) ∧
    r.busQuiet ∧ Offset.access 0x10 = .readOnly ∧ Offset.access 0x1F = .unused ∧ Offset.access 0x7F = .unused := by
  decide +kernel

/-- A held cycle in IDLE, MEMC as the kind of cycle has it. -/
def heldIdle (h : HeldCycle) : State := { r with pbi := { r.pbi with held := some h, memc := h == .memory } }

theorem witness_HeldCycleIsServedFromIdle :
    (r.pbi.held = none ∧ (inPhase .ending true (some .memory)).pbi.phase ≠ .idle) ∧
    ((heldIdle .window).pbi.phase = .idle ∧ (heldIdle .window).pbi.held = some .window ∧
      (heldIdle .window).pbi.memc = false ∧ (heldIdle .window).pbi.readOut = none) ∧
    ((⟨true, true, 0, 0⟩ : BusPins).rd = (⟨true, true, 0, 0⟩ : BusPins).wr) ∧
    ((rdPins 0x0080).addr.setWidth 7 : Offset) ≠ 0x13 ∧ ((rdPins 0x0013).addr.setWidth 7 : Offset) = 0x13 ∧
    ((wrPins 0x0049 0).rd = false ∧ (wrPins 0x0049 0).wr = true) ∧
    ((heldIdle .memory).pbi.held = some .memory ∧ (heldIdle .memory).pbi.memc = true ∧
      (heldIdle .memory).pbi.readOut = none) ∧
    ((inPhase .idle false (some .memory)).pbi.held = some .memory ∧
      (inPhase .idle false (some .memory)).pbi.memc = false) := by decide +kernel

theorem witness_ChstatReadCapturesTheChannel :
    (withQueue 0 .held (List.replicate 8 (free 1))).busQuiet ∧
    ((withQueue 0 .held (List.replicate 8 (free 1))).chan 0).queue.length ≤ 8 ∧
    (r.busQuiet ∧ (r.chan r.win.chsel).queue = []) ∧ ((0x10 : Offset) ≠ 0x13) ∧ (0x7F : Offset) ≠ 0x13 ∧
    (0x0A ≤ (0x0F : Offset).toNat ∧ 0x4F ≤ (0x4F : Offset).toNat) := by
  decide +kernel

/-- The snapshot stands when CHSEL names another channel. -/
theorem test_snapshot_reads_low_byte_first :
    let t := run (.registerWrite 0x12 1) (run .chstatRead (withQueue 0 .held [free 3]))
    (t.readRegister 0x14 = 0x00 ∧ t.readRegister 0x15 = 0x01 ∧ t.readRegister 0x16 = 0x00) ∧
    (t.readRegister 0x18 = 0x02 ∧ t.readRegister 0x1A = 0x03 ∧ t.readRegister 0x1B = 0x00) ∧
    t.readRegister 0x1C = 0x5A ∧ t.readRegister 0x1E = 0x00 := by decide +kernel

/-- The strobes and the unused offsets are those the statement lists. -/
theorem test_strobes_and_unused_offsets :
    ∀ off : Offset, (off.access = .strobe ∨ off.access = .unused) ↔
      ((0x0A ≤ off.toNat ∧ off.toNat ≤ 0x0F) ∨ off.toNat = 0x1F ∨ (0x25 ≤ off.toNat ∧ off.toNat ≤ 0x27) ∨
        off.toNat = 0x2E ∨ off.toNat = 0x2F ∨ off.toNat = 0x36 ∨ off.toNat = 0x37 ∨
        (0x40 ≤ off.toNat ∧ off.toNat ≤ 0x43) ∨ (0x48 ≤ off.toNat ∧ off.toNat ≤ 0x4B) ∨ 0x4F ≤ off.toNat) := by
  decide +kernel

/-- Window 7 alone, over pages 14 and 15 and the last two frames. -/
def w7 : WindowEntry :=
  { enable := true, basePage := 14, pageCount := 2, frameBase := 0xFFE, readRight := true, writeRight := false }
def only7 : Oct WindowEntry := (r.wtu.windows.set 0 WindowEntry.reset).set 7 w7

theorem witness_LowestWindowAnswersAndTranslates :
    (∀ i, (only7.get i).contains (pageOf 0xDFFF) = false) ∧
    ((only7.get 7).contains (pageOf 0xFFFF) = true ∧ ∀ j < 7, (only7.get j).contains (pageOf 0xFFFF) = false) ∧
    w7.wf = true ∧ w7.contains (pageOf 0xE000) = true := by decide +kernel

theorem witness_RegionAndRowOfAnAddress :
    rd.TablesOk ∧ dyn.contains (frameOf 0x100000) = true ∧ dyn.contains (frameOf 0x1FFFFF) = true := by decide +kernel

/-- A window staging record. -/
def staged (b c : Byte) (f : BitVec 16) : State := { r with wtu := { r.wtu with staging := ⟨b, c, f, 7⟩ } }

theorem witness_WindowLoadReplacesTheEntry :
    r.busQuiet ∧ 8 ≤ (8 : Byte).toNat ∧ (7 : Byte).toNat = (7 : Fin 8).val ∧
    (staged 0 0 0).wtu.staging.wcount.toNat = 0 ∧ 16 < (staged 0 17 0).wtu.staging.wcount.toNat ∧
    16 < (staged 16 1 0).wtu.staging.wbase.toNat + (staged 16 1 0).wtu.staging.wcount.toNat ∧
    4096 < (staged 0 1 0x1000).wtu.staging.wframe.toNat + (staged 0 1 0x1000).wtu.staging.wcount.toNat ∧
    ((staged 0 16 0xFF0).wtu.staging.wcount.toNat ≤ 16 ∧
      (staged 0 16 0xFF0).wtu.staging.wframe.toNat + 16 ≤ 4096) := by decide +kernel

theorem witness_WindowReadBackReloads :
    r.busQuiet ∧ 8 ≤ (0xFF : Byte).toNat ∧ (0 : Byte).toNat = (0 : Fin 8).val ∧
      (r.wtu.windows.get 0).wf = true ∧ (r.wtu.windows.get 7).wf = true := by decide +kernel

/-- A region staging record. -/
def stagedR (a b : BitVec 16) (k : BitVec 6) (t : Byte) : State :=
  { rd with rgd := { rd.rgd with staging := ⟨a, b, k, t⟩ } }

theorem witness_RegionLoadRefusals :
    (stagedR 0 0 0 0).busQuiet ∧ 4 ≤ (4 : Byte).toNat ∧ (3 : Byte).toNat < 4 ∧
    0xFFF < (stagedR 0x1000 0x1000 0 0).rgd.staging.rstart.toNat ∧
    (stagedR 1 0 0 0).rgd.staging.rend.toNat < (stagedR 1 0 0 0).rgd.staging.rstart.toNat ∧
    2 ≤ ((stagedR 0 0 0x05 0).rgd.staging.rkind.extractLsb' 1 2).toNat ∧
    4 ≤ ((stagedR 0 0 0x21 0).rgd.staging.rkind.extractLsb' 3 3).toNat ∧
    (((stagedR 0 0 0x03 0x28).rgd.staging.rkind.extractLsb' 1 2).toNat = 1 ∧
      5 ≤ ((stagedR 0 0 0x03 0x28).rgd.staging.rattr.extractLsb' 3 3).toNat) ∧
    (∃ e, (stagedR 0x0FF 0x0FF 0x01 0).rgd.staging.entry = some e ∧ e.enable = true ∧
      e.startFrame.toNat ≤ (rd.rgd.regions.get 0).endFrame.toNat ∧
      (rd.rgd.regions.get 0).startFrame.toNat ≤ e.endFrame.toNat ∧ (rd.rgd.regions.get 0).enable = true) :=
  ⟨by decide +kernel, by decide, by decide, by decide +kernel, by decide +kernel, by decide +kernel,
    by decide +kernel, by decide +kernel, _, rfl, by decide +kernel⟩

/-- Region 2 staged just behind region 1; and region 1 staged again, disabled, with its row open. -/
theorem witness_RegionLoadTaken :
    (stagedR 0x200 0xFFF 0x01 0x80).busQuiet ∧ (2 : Byte).toNat = (2 : Fin 4).val ∧
    (∃ e, (stagedR 0x200 0xFFF 0x01 0x80).rgd.staging.entry = some e ∧ e.enable = true ∧
      ∀ q, q ≠ 2 → (rd.rgd.regions.get q).enable = true → e.shares (rd.rgd.regions.get q) = false) ∧
    (∃ e, (withRow (some row1) (stagedR 0x100 0x1FF 0x0A 0x19)).rgd.staging.entry = some e ∧ e.enable = false ∧
      (rd.rgd.regions.get 1).isDynamic = true ∧ e ≠ rd.rgd.regions.get 1) :=
  ⟨by decide +kernel, by decide, ⟨_, rfl, by decide +kernel⟩, ⟨_, rfl, by decide +kernel⟩⟩

/-- Step 3 of the example of 11.9, the record read by its layout; and every field at its top. -/
theorem test_staged_region_record :
    (⟨0x400, 0x7FF, 0x13, 0x10⟩ : RegionStaging).entry =
      some { enable := true, startFrame := 0x400, endFrame := 0x7FF, kind := .dynamic, wait := 0,
             writeProtect := false, readyEnable := false, rowSize := .b2048, rowPenalty := 2 } ∧
    (⟨0xFFF, 0xFFF, 0x18, 0x7F⟩ : RegionStaging).entry =
      some { enable := false, startFrame := 0xFFF, endFrame := 0xFFF, kind := .static, wait := 7,
             writeProtect := true, readyEnable := false, rowSize := .b4096, rowPenalty := 7 } := by decide +kernel

/-- That load during a ROW_OPEN of region 1: its access is marked and keeps the entry captured. -/
theorem test_rload_marks_the_access_in_progress :
    let s := withOp ⟨.rowOpen, 2, .processor (dynAccess .read) 0⟩ .processor (stagedR 0x100 0x1FF 0x0A 0x19)
    (run (.rload 1) s).mseq.op = some ⟨.rowOpen, 2, .processor { dynAccess .read with staleMark := true } 0⟩ := by
  decide +kernel

/-- A claim on region 1, which a disabled entry then covers no more; the Fault Log full. -/
def claimDyn : State :=
  let s := rd.setChan 2 { Channel.reset false with
    state := .busy, queue := [{ free 1 with curSrc := 0x100000 }], port := .claim (some 4) }
  { s with flog := { records := [flt, flt, flt, flt], overflow := false } }

/-- Region 1 staged again, disabled. -/
def unloading (s : State) : State := { s with rgd := { s.rgd with staging := ⟨0x100, 0x1FF, 0x0A, 0x19⟩ } }

theorem witness_RegionLoadRechecksWaitingUnits :
    (unloading claimDyn).busQuiet ∧ (1 : Byte).toNat = (1 : Fin 4).val ∧
    (unloading claimDyn).rgd.staging.entry = some { dyn with enable := false } ∧
    (unloading claimDyn).waitingReport (rd.rgd.regions.set 1 { dyn with enable := false }) 2 ≠ none ∧
    (unloading claimDyn).waitingReport (rd.rgd.regions.set 1 { dyn with enable := false }) 0 = none := by
  decide +kernel

/-- One unit fails: its report stands in the log as R109 spells it. -/
theorem test_rload_files_the_report_of_a_failing_unit :
    let t := run (.rload 1) (unloading { claimDyn with flog := Flog.reset })
    t.flog.records = [{ source := .channel 2, kind := .unmapped, dir := .read, logical := none,
                        physical := some 0x100000, tag := some 0x5A }] ∧
      (t.chan 2).state = .faulted ∧ (run (.rload 1) (unloading claimDyn)).flog.overflow = true := by decide +kernel

theorem witness_RegionReadBackReloads :
    rd.busQuiet ∧ 4 ≤ (4 : Byte).toNat ∧ (3 : Byte).toNat = (3 : Fin 4).val ∧ rd.TablesOk ∧
      (∀ n, rd.claimFails n = false) ∧ (∀ n, claimDyn.claimFails n = false) := by decide +kernel

/-- Window 0 without its read right, over frames no region covers; and region 0 write protected. -/
def wo : WindowEntry :=
  { enable := true, basePage := 0, pageCount := 16, frameBase := 0x100, readRight := false, writeRight := true }
def noRights : State := { r with wtu := { r.wtu with windows := r.wtu.windows.set 0 wo } }
def protectedR : State :=
  { r with rgd := { r.rgd with regions := r.rgd.regions.set 0 { r.rgd.regions.get 0 with writeProtect := true } } }

theorem witness_MemoryCycleIsLookedUpAndChecked :
    r.busQuiet ∧ noRights.busQuiet ∧ protectedR.busQuiet ∧ (withPort .parked r).busQuiet ∧
    (⟨false, false, 0, 0⟩ : BusPins).rd = (⟨false, false, 0, 0⟩ : BusPins).wr ∧
    (rdPins 0).rd ≠ (rdPins 0).wr ∧ (wrPins 0 0).rd ≠ (wrPins 0 0).wr ∧
    windowVerdict only7 0x0000 .read = .notClaimed ∧
    windowVerdict noRights.wtu.windows 0x0000 .read = .rights 0x100000 ∧
    (windowVerdict noRights.wtu.windows 0x0000 .write = .claimed 0x100000 ∧
      regionOf noRights.rgd.regions 0x100000 = none) ∧
    (windowVerdict protectedR.wtu.windows 0xFFFF .write = .claimed 0x00FFFF ∧
      regionOf protectedR.rgd.regions 0x00FFFF = some 0 ∧ (protectedR.rgd.regions.get 0).writeProtect = true) ∧
    (regionOf r.rgd.regions 0x00FFFF = some 0 ∧ (r.rgd.regions.get 0).writeProtect = false ∧
      r.rpc.portState ≠ .parked) := by decide +kernel

/-- An access with the next memory cycle held behind it. -/
def accessingHeld : State := withOp ⟨.read, 1, .processor src 0⟩ .processor (inPhase .access true (some .memory))

theorem witness_AccessesCompleteAndCyclesEnd :
    (r.pbi.memc = false ∧ (run (.chstatRead 0x10) r).pbi.memc = false ∧
      (inPhase .waiting false (some .window)).pbi.memc = false) ∧
    ((inPhase .passive true none).pbi.memc = true ∧ (inPhase .passive true none).pbi.phase = .passive) ∧
    ((inPhase .waiting true none).pbi.memc = true ∧ (inPhase .waiting true none).pbi.phase = .waiting) ∧
    ((heldIdle .memory).pbi.memc = true ∧ (heldIdle .memory).pbi.phase = .idle ∧
      (inPhase .access true (some .memory)).pbi.memc = true) ∧
    (accessing.mseq.op = some ⟨.read, 1, .processor src 0⟩ ∧ accessing.parb.holder = .processor ∧
      accessing.pbi.cycle = some cyc ∧ (extended 255 accessing).mseq.extension < 256) ∧
    (accessingHeld.parb.holder = .processor ∧ accessingHeld.pbi.cycle = some cyc ∧ accessingHeld.pbi.held ≠ none) ∧
    ((run (.accessComplete 0xC3) accessing).pbi.phase = .ending ∧ cyc.dir = .read) := by decide +kernel

/-- RUNNING or DRAINING with a debt and, or not, a processor claim and a channel claim. -/
def contested (p : PortState) (debt : Nat) (cpu chan : Bool) : State :=
  let s := withPort p (withDebt debt (if chan then claiming 2 (free 1) (some 4) else r))
  { s with pbi := { s.pbi with phase := if cpu then .waiting else .idle } }

theorem witness_GrantOrderUnderTheGate :
    ((contested .running 4 true true).rpc.portState = .running ∧ (contested .running 4 true true).rpc.rfurg ≤ 4) ∧
    ((contested .running 3 true true).pbi.phase = .waiting ∧ 3 < (contested .running 3 true true).rpc.rfurg) ∧
    ((contested .running 3 false true).pbi.phase ≠ .waiting ∧
      (contested .running 3 false true).chosenChannel = some 2) ∧
    (contested .running 1 false false).chosenChannel = none ∧
    ((contested .running 0 false false).chosenChannel = none ∧ (contested .running 0 false false).rpc.debt = 0) ∧
    ((contested .draining 1 true true).rpc.parkStep = false ∧ (contested .draining 0 true true).pbi.phase = .waiting ∧
      (contested .draining 0 false true).pbi.phase ≠ .waiting) ∧
    ((withPort .parked r).rpc.portState = .parked ∧ (withPort .waking r).rpc.portState = .waking) := by decide +kernel

/-- Claims of channels 0 and 3, the pointer at 2 in rotating order. -/
def twoClaims (m : ArbMode) : State :=
  let s := (claiming 0 (free 1) (some 4)).setChan 3
    { Channel.reset false with state := .busy, queue := [free 1], port := .claim (some 4) }
  { s with parb := { holder := .none, pointer := 2, mode := m } }

theorem witness_ArbmodeSetsTheChannelOrder :
    (twoClaims .fixed).chosenChannel = some 0 ∧ (twoClaims .rotating).chosenChannel = some 3 ∧
      (twoClaims .rotating).parb.turn 3 < (twoClaims .rotating).parb.turn 0 ∧ r.chosenChannel = none ∧
      (twoClaims .fixed).busQuiet := by decide +kernel

theorem witness_PortGrantHandsOverThePort :
    (r.decision = none ∧ accessing.parb.holder ≠ .none) ∧
    ((withRow (some row1) (withDebt 8 rd)).parb.holder = .none ∧
      (withRow (some row1) (withDebt 8 rd)).decision = some .refresh) ∧
    ((inPhase .waiting true none).decision = some .processor ∧ (inPhase .waiting true none).pbi.cycle = some cyc ∧
      cyc.physical = some 0x000100 ∧ cyc.region = some 0) ∧
    ((claiming 3 (paced 1) none).decision = some (.channel 3) ∧
      ((claiming 3 (paced 1) none).chan 3).port = .claim none ∧
      ((claiming 3 (paced 1) none).chan 3).queue = [paced 1] ∧
      unitVerdict (claiming 3 (paced 1) none).rgd.regions (paced 1).curSrc (paced 1).curDst = .pass 0 0) := by
  decide +kernel

theorem witness_OperationsAndClocksOfAnAccess :
    stale1.stale = some 3 ∧ src.entry.kind = .static ∧ row1.stale = none ∧
    ((dynAccess .read).entry.kind = .dynamic ∧ row1.region = (dynAccess .read).region ∧
      row1.row = (dynAccess .read).entry.rowOf (dynAccess .read).addr) ∧
    { row1 with row := 0 }.row ≠ (dynAccess .read).entry.rowOf (dynAccess .read).addr ∧
    (Work.processor (dynAccess .read) 0).access = some (dynAccess .read) ∧
    (r.mseq.op = none ∧ accessing.mseq.op = some ⟨.read, 1, .processor src 0⟩ ∧
      (withOp (unitWrite 1) (.channel 1) r).mseq.op = some ⟨.write, 1, .unitWrite 1 dst 0xAB⟩ ∧
      (refreshing 1).mseq.op = some ⟨.refresh, 1, .refresh ⟨false, true, false, false⟩⟩ ∧
      exiting.mseq.op = some ⟨.selfRefreshExit, 1, .wakeUp ⟨false, true, false, false⟩⟩) := by decide +kernel

theorem test_wake_selects_for_four_clocks :
    let o : Nat → Operation := fun left => ⟨.selfRefreshExit, left, .wakeUp ⟨false, true, false, false⟩⟩
    (withOp (o 125) .none rd).rsel 1 = true ∧ (withOp (o 124) .none rd).rsel 1 = false := by decide

/-- A ROW_OPEN, and a ROW_CLOSE of each kind of work. -/
def opening (h : Holder) : State := withOp ⟨.rowOpen, 1, .processor (dynAccess .read) 0⟩ h rd
def closing (w : Work) (h : Holder) : State := withRow (some row1) (withOp ⟨.rowClose row1 3, 1, w⟩ h rd)

theorem witness_OperationsFollowInsideAGrant :
    ((granted 1 (free 1) (some 4) (unitRead 1)).mseq.op = some ⟨.read, 1, .unitRead 1 src dst⟩ ∧
      (granted 1 (free 1) (some 4) (unitRead 1)).parb.holder = .channel 1 ∧
      ((granted 1 (free 1) (some 4) (unitRead 1)).chan 1).queue = [free 1] ∧
      (extended 255 (granted 1 (free 1) (some 4) (unitRead 1))).mseq.extension < 256) ∧
    ((opening .residual).parb.holder = .residual ∧ (opening .processor).parb.holder ≠ .residual ∧
      (opening .processor).mseq.op = some ⟨.rowOpen, 1, .processor (dynAccess .read) 0⟩) ∧
    ((closing .timeoutClose .residual).parb.holder = .residual ∧
      (closing (.processor (dynAccess .write) 1) .processor).mseq.op =
        some ⟨.rowClose row1 3, 1, .processor (dynAccess .write) 1⟩ ∧
      (closing (.refresh ⟨false, true, false, false⟩) .refresh).parb.holder ≠ .residual ∧
      (closing (.enter ⟨false, true, false, false⟩) .none).parb.holder ≠ .residual ∧
      (closing .parkClose .none).parb.holder ≠ .residual) := by decide +kernel

theorem witness_TimeoutTellsTheRequesterThenClosesTheRow :
    (accessing.mseq.op = some ⟨.read, 1, .processor src 0⟩ ∧ src.entry.readyEnable = true ∧
      accessing.parb.holder = .processor ∧ accessing.pbi.cycle = some cyc ∧ accessing.mseq.record = none ∧
      (withRow (some row1) accessing).mseq.record = some row1) ∧
    ((granted 2 (free 2) (some 4) (unitWrite 2)).mseq.op = some ⟨.write, 1, .unitWrite 2 dst 0xAB⟩ ∧
      (unitWrite 2).work.access = some dst ∧ dst.entry.readyEnable = true ∧
      (granted 2 (free 2) (some 4) (unitWrite 2)).parb.holder = .channel 2 ∧
      ((granted 2 (free 2) (some 4) (unitWrite 2)).chan 2).queue = [free 2]) ∧
    ((withOp (unitWrite 1) .residual r).mseq.op = some (unitWrite 1) ∧
      (withOp (unitWrite 1) .residual r).parb.holder = .residual ∧
      (withOp (unitWrite 1) .residual r).mseq.record = none ∧
      (withRow (some row1) (withOp (unitWrite 1) .residual rd)).mseq.record = some row1) := by decide +kernel

theorem witness_ResidualEndFreesThePort :
    (withOp (unitWrite 1) .residual r).mseq.op = some (unitWrite 1) ∧
    (withOp (unitWrite 1) .residual r).parb.holder = .residual ∧
    (extended 255 (withOp (unitWrite 1) .residual r)).mseq.extension < 256 ∧
    (closing .timeoutClose .residual).mseq.op = some ⟨.rowClose row1 3, 1, .timeoutClose⟩ ∧
    ((opening .residual).mseq.op = some ⟨.rowOpen, 1, .processor (dynAccess .read) 0⟩) := by decide +kernel

theorem witness_CompletionsNotDueChangeNothing :
    r.mseq.op = none ∧ 256 ≤ (extended 256 accessing).mseq.extension := by decide +kernel

theorem witness_ExpiriesRaiseAndRefreshesPayTheDebt :
    ((refreshing 1).mseq.op = some ⟨.refresh, 1, .refresh ⟨false, true, false, false⟩⟩ ∧
      (refreshing 1).parb.holder = .refresh) ∧
    r.rpc.timer = none ∧ (withDebt 7 (withTimer (some 1) rd)).rpc.timer = some 1 ∧
    (withDebt 7 (withTimer (some 1) rd)).rpc.debt < 8 ∧ 8 ≤ (withDebt 8 (withTimer (some 1) rd)).rpc.debt ∧
    ((withDebt 8 rd).rpc.debt ≤ 8 ∧ (withPort .draining (withDebt 8 rd)).rpc.portState = .draining ∧
      (withPort .parked rd).rpc.portState = .parked ∧ (withPort .waking rd).rpc.portState = .waking) := by
  decide +kernel

theorem witness_RfintWriteRestartsTheTimer : rd.busQuiet ∧ (withPort .parked rd).busQuiet := by decide +kernel

theorem test_rfint_reads_back_as_stored :
    let t := run (.rfintWrite true 0xF2) (run (.rfintWrite false 0x71) rd)
    t.readRegister 0x44 = 0x71 ∧ t.readRegister 0x45 = 0x02 := by decide +kernel

theorem witness_RfurgWriteSetsTheThreshold :
    r.busQuiet ∧ 1 ≤ (1 : Byte).toNat ∧ (8 : Byte).toNat ≤ 8 ∧ (0 : Byte).toNat = 0 ∧ 8 < (9 : Byte).toNat := by
  decide +kernel

theorem witness_ParkIsDecidedByThePortState :
    (r.busQuiet ∧ r.rpc.portState = .running ∧ r.rpc.parkStep = false ∧ r.parb.holder = .none ∧ r.rpc.debt = 0) ∧
    ((withDebt 1 r).busQuiet ∧ 1 ≤ (withDebt 1 r).rpc.debt ∧ (refreshing 1).busQuiet ∧
      (refreshing 1).parb.holder ≠ .none) ∧
    ((withPort .draining r).busQuiet ∧ (withPort .parked r).busQuiet ∧ (withPort .waking r).busQuiet) := by
  decide +kernel

theorem witness_ParkStepLeadsToParked :
    (withPort .draining r).parkStepDue = true ∧ r.parkStepDue = false ∧
    ((withPort .draining rd).parkStepDue = true ∧ anyDynamic (withPort .draining rd).rgd.regions = true ∧
      (withPort .draining rd).mseq.record.bind OpenRow.stale = none) ∧
    ((withRow (some stale1) (withPort .draining rd)).parkStepDue = true ∧
      (withRow (some stale1) (withPort .draining rd)).mseq.record = some stale1) ∧
    ((withRow (some stale1) (withPort .draining r)).parkStepDue = true ∧
      anyDynamic (withRow (some stale1) (withPort .draining r)).rgd.regions = false) := by decide +kernel

/-- The end of the park step, and of a wake. -/
def entering (p : Phase) : State :=
  let s := withOp ⟨.selfRefreshEnter, 1, .enter ⟨false, true, false, false⟩⟩ .none (withPort .draining rd)
  { s with rpc := { s.rpc with parkStep := true }, pbi := { s.pbi with phase := p, cycle := some cyc } }

theorem witness_SelfRefreshOperationsMoveThePort :
    ((entering .idle).rpc.parkStep = true ∧ (entering .idle).pbi.phase ≠ .waiting ∧
      (entering .waiting).pbi.phase = .waiting ∧
      (entering .idle).mseq.op = some ⟨.selfRefreshEnter, 1, .enter ⟨false, true, false, false⟩⟩) ∧
    (exiting.mseq.op = some ⟨.selfRefreshExit, 1, .wakeUp ⟨false, true, false, false⟩⟩ ∧
      exiting.rpc.portState = .waking) := by decide +kernel

theorem witness_WakeIsDecidedByThePortState :
    ((withPort .parked rd).busQuiet ∧ (withPort .draining r).busQuiet ∧ r.busQuiet ∧ exiting.busQuiet) ∧
    ({ exiting with rpc := { exiting.rpc with wakeCause := some .processor } } : State).rpc.wakeCause =
      some .processor := by decide +kernel

/-- A staged descriptor with the given count and mode. -/
def stagedD (cnt : BitVec 16) (mode : Byte) (s : State) : State :=
  { s with txe := { s.txe with staging := ⟨0x000100, 0x000200, cnt, mode, 0x5A⟩ } }

theorem witness_EnqChecksThenJoinsTheTail :
    (r.busQuiet ∧ 4 ≤ (4 : Byte).toNat ∧ (3 : Byte).toNat = (3 : Fin 4).val) ∧
    ((stagedD 0 0 r).txe.staging.descriptor = none ∧ (stagedD 1 0x03 r).txe.staging.descriptor = none ∧
      (stagedD 1 0x0C r).txe.staging.descriptor = none) ∧
    (stagedD 3 0xA0 r).txe.staging.descriptor = some (free 3) ∧
    8 ≤ ((stagedD 3 0xA0 (withQueue 3 .held (List.replicate 8 (free 1)))).chan 3).queue.length ∧
    (((stagedD 3 0xA0 (withQueue 3 .held (List.replicate 7 (free 1)))).chan 3).queue.length < 8 ∧
      ((stagedD 3 0xA0 (withQueue 3 .held (List.replicate 7 (free 1)))).chan 3).state ≠ .ready) ∧
    ((stagedD 3 0xA0 (withQueue 3 .ready [])).chan 3).state = .ready := by decide +kernel

theorem witness_UnitCheckClaimsOrFaults :
    ((withQueue 0 .busy [free 1]).chan 0).queue = [free 1] ∧ ((withQueue 0 .held [free 1]).chan 0).state ≠ .busy ∧
    ((claiming 0 (free 1) (some 4)).chan 0).port ≠ .none ∧
    ((paced 1).pacing = .paced ∧ ((withQueue 0 .busy [paced 1]).chan 0).latch = false) ∧
    (regionOf r.rgd.regions (lost 1).curSrc = none ∧ regionOf r.rgd.regions (free 1).curSrc = some 0 ∧
      regionOf r.rgd.regions 0x100000 = none) ∧
    ((protectedR.rgd.regions.get 0).writeProtect = true ∧ (r.rgd.regions.get 0).writeProtect = false) := by
  decide +kernel

theorem witness_StartTakesAChannelOutOfOff :
    (r.busQuiet ∧ 4 ≤ (0xFF : Byte).toNat ∧ (0 : Byte).toNat = (0 : Fin 4).val) ∧
    ((withQueue 0 .held []).chan 0).state ≠ .off ∧ ((r.chan 0).state = .off ∧ (r.chan 0).queue = []) ∧
    ((withQueue 0 .off [free 1]).busQuiet ∧ ((withQueue 0 .off [free 1]).chan 0).queue ≠ []) := by decide +kernel

theorem witness_HoldStopsAChannel :
    ((withQueue 3 .ready []).busQuiet ∧ (3 : Byte).toNat = (3 : Fin 4).val) ∧
    ((claiming 3 (free 1) (some 4)).busQuiet ∧ ((claiming 3 (free 1) (some 4)).chan 3).granted = false) ∧
    ((granted 3 (free 1) (some 4) (unitRead 3)).busQuiet ∧
      ((granted 3 (free 1) (some 4) (unitRead 3)).chan 3).granted = true) ∧
    ((withQueue 3 .posting [free 1]).chan 3).state = .posting ∧ (r.chan 3).state = .off := by decide +kernel

theorem witness_ResumeSetsAChannelGoing :
    ((withQueue 1 .held []).busQuiet ∧ (1 : Byte).toNat = (1 : Fin 4).val ∧
      ((withQueue 1 .held []).chan 1).queue = []) ∧
    ((withQueue 1 .held [free 1]).chan 1).queue ≠ [] ∧ ((withQueue 1 .faulted [paced 1]).chan 1).queue = [paced 1] ∧
    (r.chan 1).state = .off := by decide +kernel

theorem witness_SkipOffersAnAbortedRecord :
    ((withQueue 1 .faulted [free 1]).busQuiet ∧ ((withQueue 1 .faulted [free 1]).chan 1).queue = [free 1] ∧
      (withQueue 1 .faulted [free 1]).clog.records.length < 16) ∧
    16 ≤ ({ withQueue 1 .held [free 1] with clog := full } : State).clog.records.length ∧
    ((withQueue 1 .held []).chan 1).queue = [] ∧ (r.chan 1).state = .off := by decide +kernel

theorem witness_FlushClearsAChannel :
    (r.busQuiet ∧ (r.chan 2).granted = false ∧ (2 : Byte).toNat = (2 : Fin 4).val) ∧
    ((granted 2 (free 1) (some 4) (unitRead 2)).busQuiet ∧
      ((granted 2 (free 1) (some 4) (unitRead 2)).chan 2).granted = true) ∧
    (r.txe.flushn ≤ 8 ∧ ({ r with txe := { r.txe with flushn := 8 } } : State).txe.flushn ≤ 8) := by decide +kernel

theorem test_flushn_reads_the_number_removed :
    (run (.flush 2) (withQueue 2 .held (List.replicate 8 (free 1)))).readRegister 0x11 = 0x08 := by decide +kernel

theorem witness_ChcfgWriteReachesTheSelectedChannel :
    (0x60 : Byte).toNat % 32 = 0 ∧ 16 < (0x11 : Byte).toNat % 32 ∧ 1 ≤ (0x81 : Byte).toNat % 32 ∧
    (0x10 : Byte).toNat % 32 ≤ 16 ∧
    ((claiming 0 (free 1) (some 4)).busQuiet ∧
      ((claiming 0 (free 1) (some 4)).chan (claiming 0 (free 1) (some 4)).win.chsel).port ≠ .none) ∧
    (r.busQuiet ∧ (r.chan r.win.chsel).port = .none ∧ (r.chan r.win.chsel).stored.burst ≤ 16) := by decide +kernel

theorem test_chcfg_reads_back_as_stored :
    (run (.chcfgWrite 0xF0) r).readRegister 0x1D = 0x90 ∧ (run (.chcfgWrite 0x01) r).readRegister 0x1D = 0x01 := by
  decide +kernel

/-- An edge and then CHCFG 84h: behind the claim the edge raised the change waits with the latch set; where it raised
none, in READY, the change clears the latch (log 36). -/
theorem test_edge_before_a_change_of_sense :
    let c := (run (.chcfgWrite 0x84) (run (.trqAssert 0) (withQueue 0 .busy [paced 2]))).chan 0
    let q := (run (.chcfgWrite 0x84) (run (.trqAssert 0) (withQueue 0 .ready []))).chan 0
    (c.port = .claim none ∧ c.latch = true ∧ c.inUse = ⟨.edge, 4⟩ ∧ c.stored = ⟨.level, 4⟩) ∧
    (q.port = .none ∧ q.latch = false ∧ q.inUse = ⟨.level, 4⟩) := by decide +kernel

/-- A channel with a deferred configuration, with pending flags, and waiting to post. -/
def deferred : State := r.setChan 1 { r.chan 1 with stored := ⟨.level, 16⟩ }
def flagged (f h : Bool) : State :=
  (withQueue 1 .busy [free 2]).setChan 1
    { (withQueue 1 .busy [free 2]).chan 1 with flushPending := f, holdPending := h }

theorem witness_DeferredEventsActOnWhatIsLeft :
    ((r.chan 1).inUse = (r.chan 1).stored ∧ (deferred.chan 1).port = .none ∧
      (deferred.chan 1).inUse ≠ (deferred.chan 1).stored) ∧
    (((flagged false false).chan 1).holdPending = false ∧ ((flagged true true).chan 1).flushPending = true) ∧
    (((flagged false true).chan 1).state = .busy ∧ ((flagged false true).chan 1).port = .none ∧
      ((flagged false true).chan 1).queue = [free 2] ∧ (free 2).remaining ≠ 0) ∧
    (∀ m, (r.chan m).state ≠ .posting) ∧ 16 ≤ full.records.length ∧
    (((withQueue 3 .posting [free 0]).chan 3).state = .posting ∧
      (∀ m < 3, ((withQueue 3 .posting [free 0]).chan m).state ≠ .posting) ∧
      (withQueue 3 .posting [free 0]).clog.records.length < 16) := by decide +kernel

/-- A channel with its latch as given. -/
def latched (st : ChanState) (p : PortRequest) (l : Bool) : State :=
  r.setChan 0 { Channel.reset false with state := st, queue := [paced 2], latch := l, port := p }

theorem witness_AssertingEdgeIsLatchedOrOverruns :
    (deferred.setChan 1 (deferred.chan 1).adopt).chan 1 = { r.chan 1 with stored := ⟨.level, 16⟩, inUse := ⟨.level, 16⟩ } ∧
    ((r.chan 0).inUse.sense = .edge ∧ (r.chan 0).state = .off) ∧
    (((latched .busy .none false).chan 0).state = .busy ∧ ((latched .busy .none false).chan 0).latch = false) ∧
    (((latched .posting .none true).chan 0).state ≠ .busy ∧ ((latched .posting .none true).chan 0).latch = true) ∧
    (((latched .busy (.claim none) true).chan 0).granted = false ∧
      ((latched .busy (.claim none) true).chan 0).flushPending = false) ∧
    (((withOp (unitRead 0) (.channel 0) (latched .busy (.grant none 0) true)).chan 0).granted = true ∧
      (withOp (unitRead 0) (.channel 0) (latched .busy (.grant none 0) true)).mseq.op = some (unitRead 0)) := by
  decide +kernel

/-- A claim of a PACED head under LEVEL sense. -/
def levelClaim : State :=
  r.setChan 0 { Channel.reset true with
    state := .busy, queue := [paced 2], port := .claim none, stored := ⟨.level, 4⟩, inUse := ⟨.level, 4⟩ }

/-- The same after CHCFG 10h was written while the claim stood: EDGE and 16 are deferred behind it. -/
def deferredClaim : State := run (.chcfgWrite 0x10) levelClaim

theorem witness_DeassertionWithdrawsALevelClaim :
    ((levelClaim.chan 0).inUse = (levelClaim.chan 0).stored ∧ (levelClaim.chan 0).inUse.sense = .level ∧
      (levelClaim.chan 0).port = .claim none ∧ (levelClaim.chan 0).queue = [paced 2] ∧ (paced 2).pacing = .paced) ∧
    ((deferredClaim.chan 0).inUse = ⟨.level, 4⟩ ∧ (deferredClaim.chan 0).stored = ⟨.edge, 16⟩ ∧
      (deferredClaim.chan 0).port = .claim none ∧ (deferredClaim.chan 0).queue = [paced 2]) ∧
    ((r.chan 0).inUse.sense = .edge ∧ (r.chan 0).port = .none ∧ (r.chan 0).queue = []) := by decide +kernel

/-- The claim goes, and the deferred configuration comes into use. -/
theorem test_deassert_brings_the_deferred_configuration_into_use :
    let c := (run (.trqDeassert 0) deferredClaim).chan 0
    c.port = .none ∧ c.inUse = ⟨.edge, 16⟩ ∧ c.latch = false ∧ c.trq = false ∧ c.state = .busy := by decide +kernel

/-- The top and the bottom of the space. -/
theorem witness_HeadAdvancesByItsSteps :
    ({ free 1 with curSrc := 0xFFFFFF } : Descriptor).advance.curSrc = 0 ∧
    ({ free 1 with curDst := 0, dstStep := .dec } : Descriptor).advance.curDst = 0xFFFFFF ∧
    ({ free 1 with srcStep := .fix } : Descriptor).advance.curSrc = 0x000100 ∧
    (free 1).remaining ≠ 0 ∧ (free 1).advance.remaining = 0 := by decide

/-- The WRITE of a unit with flags set, a count left and units moved as given. -/
def writing (f h : Bool) (d : Descriptor) (limit : Option Nat) (moved : Nat) : State :=
  let s := granted 1 d limit (unitWrite 1)
  s.setChan 1 { s.chan 1 with flushPending := f, holdPending := h, port := .grant limit moved }

theorem witness_UnitCompleteAdvancesTheHead :
    ((writing true true (free 2) (some 4) 0).mseq.op = some ⟨.write, 1, .unitWrite 1 dst 0xAB⟩ ∧
      (writing true true (free 2) (some 4) 0).parb.holder = .channel 1 ∧
      ((writing true true (free 2) (some 4) 0).chan 1).queue = [free 2] ∧
      ((writing true true (free 2) (some 4) 0).chan 1).flushPending = true ∧
      (extended 255 (writing true true (free 2) (some 4) 0)).mseq.extension < 256) ∧
    ((free 1).advance.remaining = 0 ∧ (writing false true (free 1) (some 4) 0).clog.records.length < 16 ∧
      16 ≤ full.records.length) ∧
    (((writing false true (free 2) (some 4) 0).chan 1).holdPending = true ∧ (free 2).advance.remaining ≠ 0) ∧
    ((writing false false (free 2) (some 4) 3).chan 1).port.burstOpen = false ∧
    (((writing false false (free 2) (some 4) 2).chan 1).port.burstOpen = true ∧
      (writing false false (free 2) (some 4) 2).yields = false ∧
      unitVerdict r.rgd.regions (free 2).advance.curSrc (free 2).advance.curDst = .pass 0 0) ∧
    (unitVerdict r.rgd.regions (lost 2).advance.curSrc (lost 2).advance.curDst =
      .fail .unmapped .read 0x100001) := by decide +kernel

/-- The burst yields to a WAITING cycle, to URGENT and to DRAINING, and to nothing of a ROUTINE refresh (R54). -/
theorem test_burst_yields :
    (inPhase .waiting true none).yields = true ∧ (withDebt 4 rd).yields = true ∧ (withDebt 3 rd).yields = false ∧
    (withPort .draining rd).yields = true ∧ r.yields = false := by decide +kernel

/-- A channel that offers a record. -/
def offering (st : Status) (q : List Descriptor) : State :=
  (withQueue 1 .posting q).setChan 1
    { (withQueue 1 .posting q).chan 1 with offer := some ⟨st, 0x5A, 0, true⟩ }

theorem witness_TakenRecordIsNumberedAndPosted :
    ((offering .aborted [free 0]).chan 1).offer = some ⟨.aborted, 0x5A, 0, true⟩ ∧
    ((offering .done [free 0]).chan 1).queue = [free 0] ∧
    ((offering .done [free 0, free 1]).chan 1).queue = [free 0, free 1] ∧ (free 0).stopAfter = false ∧
    ((offering .done [free 0]).chan 1).holdPending = false := by decide +kernel

theorem witness_LogpopFreesASlot :
    (r.busQuiet ∧ r.clog.records = [] ∧ full.records.length ≤ 16) ∧
    ({ r with clog := full } : State).clog.records = rec1 :: List.replicate 15 rec1 ∧
    (∀ n, (({ r with clog := full } : State).chan n).state ≠ .posting) ∧
    ((offering .done [free 0]).busQuiet ∧ ((offering .done [free 0]).chan 1).state = .posting ∧
      (∀ m < 1, ((offering .done [free 0]).chan m).state ≠ .posting)) := by decide +kernel

theorem witness_FltpopRemovesTheOldestRecord :
    r.busQuiet ∧ r.flog.records = [] ∧ r.flog.records.length ≤ 4 ∧
    ({ r with flog := { records := [flt, flt], overflow := true } } : State).flog.records = flt :: [flt] ∧
    (flt.kind = .protect ∧ flt.dir = .write) := by decide +kernel

theorem witness_IntenWriteStoresTheEnables : r.busQuiet ∧ (withPort .parked rd).busQuiet := by decide +kernel

theorem witness_IntcauseWriteClearsStickyCauses : r.busQuiet ∧ (refreshing 1).busQuiet := by decide +kernel

theorem witness_IrqFollowsTheEnabledCauses : r.busQuiet ∧ claimDyn.busQuiet := by decide +kernel

theorem witness_ControllerResetReachesTheChannelsAndLogs :
    (granted 1 (free 1) (some 4) (unitRead 1)).busQuiet ∧
    (granted 1 (free 1) (some 4) (unitRead 1)).parb.holder = .channel 1 ∧
    (granted 1 (free 1) (some 4) (unitRead 1)).mseq.op = some (unitRead 1) ∧
    (refreshing 1).busQuiet ∧ (∀ n, (refreshing 1).parb.holder ≠ .channel n) := by decide +kernel

end Sys2Proof.Tests
end

section
/-! The frame of the window unit and the region unit: the operations that leave the WTU and the RGD as they stand, one
lemma for each, in the order of their definitions. `simp` reads each as two rewrite rules. -/
namespace Sys2Proof.Machine

/-! ### The shared operations -/

@[simp] theorem State.failUnit_decoders (s : State) (n : Fin 4) (kind : FaultKind) (dir : FaultDir)
    (addr : PhysAddr) :
    (s.failUnit n kind dir addr).wtu = s.wtu ∧ (s.failUnit n kind dir addr).rgd = s.rgd := by
  simp [State.failUnit]

@[simp] theorem State.offerRecord_decoders (s : State) (n : Fin 4) :
    (s.offerRecord n).wtu = s.wtu ∧ (s.offerRecord n).rgd = s.rgd := by
  unfold State.offerRecord
  split <;> simp

@[simp] theorem State.postHead_decoders (s : State) (n : Fin 4) (status : Status) :
    (s.postHead n status).wtu = s.wtu ∧ (s.postHead n status).rgd = s.rgd := by
  simp [State.postHead]

@[simp] theorem State.takeWaiting_decoders (s : State) :
    s.takeWaiting.wtu = s.wtu ∧ s.takeWaiting.rgd = s.rgd := by
  unfold State.takeWaiting
  split <;> simp

@[simp] theorem State.flushNow_decoders (s : State) (n : Fin 4) :
    (s.flushNow n).wtu = s.wtu ∧ (s.flushNow n).rgd = s.rgd := by
  simp [State.flushNow]

@[simp] theorem State.actPending_decoders (s : State) (n : Fin 4) :
    (s.actPending n).wtu = s.wtu ∧ (s.actPending n).rgd = s.rgd := by
  unfold State.actPending
  dsimp only
  repeat' split
  all_goals simp

@[simp] theorem State.beginWork_decoders (s : State) (w : Work) :
    (s.beginWork w).wtu = s.wtu ∧ (s.beginWork w).rgd = s.rgd := by
  rw [s.beginWork_eq w]
  simp

@[simp] theorem State.giveUpGrant_decoders (s : State) :
    s.giveUpGrant.wtu = s.wtu ∧ s.giveUpGrant.rgd = s.rgd := by
  unfold State.giveUpGrant
  split <;> simp

@[simp] theorem State.beginUnit_decoders (s : State) (n : Fin 4) (d : Descriptor) (src dst : Fin 4) :
    (s.beginUnit n d src dst).wtu = s.wtu ∧ (s.beginUnit n d src dst).rgd = s.rgd := by
  simp [State.beginUnit]

@[simp] theorem State.startWake_decoders (s : State) (cause : WakeCause) :
    (s.startWake cause).wtu = s.wtu ∧ (s.startWake cause).rgd = s.rgd := by
  simp [State.startWake]

@[simp] theorem State.enterParked_decoders (s : State) :
    s.enterParked.wtu = s.wtu ∧ s.enterParked.rgd = s.rgd := by
  unfold State.enterParked
  dsimp only
  split <;> simp

@[simp] theorem State.beginParkStep_decoders (s : State) :
    s.beginParkStep.wtu = s.wtu ∧ s.beginParkStep.rgd = s.rgd := by
  unfold State.beginParkStep
  dsimp only
  repeat' split
  all_goals simp

@[simp] theorem State.releaseProcessor_decoders (s : State) (c : CycleRecord) :
    (s.releaseProcessor c).wtu = s.wtu ∧ (s.releaseProcessor c).rgd = s.rgd := by
  unfold State.releaseProcessor
  split <;> simp

@[simp] theorem State.faultCycle_decoders (s : State) (c : CycleRecord) (kind : FaultKind) :
    (s.faultCycle c kind).wtu = s.wtu ∧ (s.faultCycle c kind).rgd = s.rgd := by
  simp [State.faultCycle]

@[simp] theorem State.endCycle_decoders (s : State) : s.endCycle.wtu = s.wtu ∧ s.endCycle.rgd = s.rgd := by
  unfold State.endCycle
  split <;> simp

@[simp] theorem State.newCycle_decoders (s : State) : s.newCycle.wtu = s.wtu ∧ s.newCycle.rgd = s.rgd := by
  unfold State.newCycle
  split <;> simp

/-! ### The grant decision -/

@[simp] theorem State.grantRefresh_decoders (s : State) :
    s.grantRefresh.wtu = s.wtu ∧ s.grantRefresh.rgd = s.rgd := by
  simp [State.grantRefresh]

@[simp] theorem State.grantProcessor_decoders (s : State) :
    s.grantProcessor.wtu = s.wtu ∧ s.grantProcessor.rgd = s.rgd := by
  unfold State.grantProcessor
  repeat' split
  all_goals simp

@[simp] theorem State.grantChannel_decoders (s : State) (n : Fin 4) :
    (s.grantChannel n).wtu = s.wtu ∧ (s.grantChannel n).rgd = s.rgd := by
  unfold State.grantChannel
  dsimp only
  repeat' split
  all_goals simp

@[simp] theorem State.grantDecision_decoders (s : State) :
    s.grantDecision.wtu = s.wtu ∧ s.grantDecision.rgd = s.rgd := by
  unfold State.grantDecision
  repeat' split
  all_goals simp

/-! ### The channels -/

@[simp] theorem State.enqOn_decoders (s : State) (n : Fin 4) :
    (s.enqOn n).wtu = s.wtu ∧ (s.enqOn n).rgd = s.rgd := by
  unfold State.enqOn
  dsimp only
  repeat' split
  all_goals simp

@[simp] theorem State.startOn_decoders (s : State) (n : Fin 4) :
    (s.startOn n).wtu = s.wtu ∧ (s.startOn n).rgd = s.rgd := by
  unfold State.startOn
  dsimp only
  repeat' split
  all_goals simp

@[simp] theorem State.holdOn_decoders (s : State) (n : Fin 4) :
    (s.holdOn n).wtu = s.wtu ∧ (s.holdOn n).rgd = s.rgd := by
  unfold State.holdOn
  dsimp only
  repeat' split
  all_goals simp

@[simp] theorem State.resumeOn_decoders (s : State) (n : Fin 4) :
    (s.resumeOn n).wtu = s.wtu ∧ (s.resumeOn n).rgd = s.rgd := by
  unfold State.resumeOn
  dsimp only
  repeat' split
  all_goals simp

@[simp] theorem State.skipOn_decoders (s : State) (n : Fin 4) :
    (s.skipOn n).wtu = s.wtu ∧ (s.skipOn n).rgd = s.rgd := by
  unfold State.skipOn
  dsimp only
  repeat' split
  all_goals simp

@[simp] theorem State.flushOn_decoders (s : State) (n : Fin 4) :
    (s.flushOn n).wtu = s.wtu ∧ (s.flushOn n).rgd = s.rgd := by
  unfold State.flushOn
  dsimp only
  split <;> simp

theorem State.channelStrobe_decoders {f : State → Fin 4 → State} (s : State) (data : Byte)
    (hf : ∀ n, (f s n).wtu = s.wtu ∧ (f s n).rgd = s.rgd) :
    (s.channelStrobe data f).wtu = s.wtu ∧ (s.channelStrobe data f).rgd = s.rgd := by
  unfold State.channelStrobe
  split
  · simp
  · exact hf _

@[simp] theorem State.writeChcfg_decoders (s : State) (data : Byte) :
    (s.writeChcfg data).wtu = s.wtu ∧ (s.writeChcfg data).rgd = s.rgd := by
  unfold State.writeChcfg
  split <;> simp

@[simp] theorem State.overrunOn_decoders (s : State) (n : Fin 4) :
    (s.overrunOn n).wtu = s.wtu ∧ (s.overrunOn n).rgd = s.rgd := by
  unfold State.overrunOn
  dsimp only
  repeat' split
  all_goals simp

@[simp] theorem State.trqEdge_decoders (s : State) (n : Fin 4) :
    (s.trqEdge n).wtu = s.wtu ∧ (s.trqEdge n).rgd = s.rgd := by
  unfold State.trqEdge
  dsimp only
  repeat' split
  all_goals simp

@[simp] theorem State.finishUnit_decoders (s : State) (n : Fin 4) :
    (s.finishUnit n).wtu = s.wtu ∧ (s.finishUnit n).rgd = s.rgd := by
  unfold State.finishUnit
  dsimp only
  repeat' split
  all_goals simp

/-! ### The logs and the interrupt registers -/

@[simp] theorem State.logpop_decoders (s : State) : s.logpop.wtu = s.wtu ∧ s.logpop.rgd = s.rgd := by
  unfold State.logpop
  split <;> simp

@[simp] theorem State.fltpop_decoders (s : State) : s.fltpop.wtu = s.wtu ∧ s.fltpop.rgd = s.rgd := by
  unfold State.fltpop
  split <;> simp

/-! ### The refresh controller -/

@[simp] theorem State.writeRfurg_decoders (s : State) (data : Byte) :
    (s.writeRfurg data).wtu = s.wtu ∧ (s.writeRfurg data).rgd = s.rgd := by
  unfold State.writeRfurg
  split <;> simp

@[simp] theorem State.expire_decoders (s : State) : s.expire.wtu = s.wtu ∧ s.expire.rgd = s.rgd := by
  unfold State.expire
  dsimp only
  split <;> simp

@[simp] theorem State.finishRefresh_decoders (s : State) :
    s.finishRefresh.wtu = s.wtu ∧ s.finishRefresh.rgd = s.rgd := by
  simp [State.finishRefresh]

@[simp] theorem State.park_decoders (s : State) : s.park.wtu = s.wtu ∧ s.park.rgd = s.rgd := by
  unfold State.park
  dsimp only
  repeat' split
  all_goals simp

@[simp] theorem State.wake_decoders (s : State) : s.wake.wtu = s.wtu ∧ s.wake.rgd = s.rgd := by
  unfold State.wake
  split <;> simp

@[simp] theorem State.finishWake_decoders (s : State) :
    s.finishWake.wtu = s.wtu ∧ s.finishWake.rgd = s.rgd := by
  simp [State.finishWake]

/-! ### What a region load does besides replacing its entry -/

@[simp] theorem State.markStale_decoders (s : State) (r : Fin 4) (old new : RegionEntry) :
    (s.markStale r old new).wtu = s.wtu ∧ (s.markStale r old new).rgd = s.rgd := by
  unfold State.markStale
  split <;> simp

@[simp] theorem State.reloadRefresh_decoders (s : State) (before after : Bool) :
    (s.reloadRefresh before after).wtu = s.wtu ∧ (s.reloadRefresh before after).rgd = s.rgd := by
  unfold State.reloadRefresh
  repeat' split
  all_goals simp

@[simp] theorem State.recheckClaim_decoders (s : State) (n : Fin 4) :
    (s.recheckClaim n).wtu = s.wtu ∧ (s.recheckClaim n).rgd = s.rgd := by
  cases h : s.waitingReport s.rgd.regions n with
  | none => simp [State.recheckClaim_none h]
  | some r => simp [State.recheckClaim_some h]

@[simp] theorem State.foldl_recheckClaim_decoders (l : List (Fin 4)) (s : State) :
    (l.foldl State.recheckClaim s).wtu = s.wtu ∧ (l.foldl State.recheckClaim s).rgd = s.rgd := by
  induction l generalizing s with
  | nil => exact ⟨rfl, rfl⟩
  | cons n l ih => simpa using ih (s.recheckClaim n)

@[simp] theorem State.recheckClaims_decoders (s : State) :
    s.recheckClaims.wtu = s.wtu ∧ s.recheckClaims.rgd = s.rgd := by
  unfold State.recheckClaims
  dsimp only
  split <;> simp

/-! ### Controller reset and register reads -/

@[simp] theorem State.residualFromChannel_decoders (s : State) :
    s.residualFromChannel.wtu = s.wtu ∧ s.residualFromChannel.rgd = s.rgd := by
  unfold State.residualFromChannel
  split <;> simp

@[simp] theorem State.controllerReset_decoders (s : State) :
    s.controllerReset.wtu = s.wtu ∧ s.controllerReset.rgd = s.rgd := by
  simp [State.controllerReset]

@[simp] theorem State.readAt_decoders (s : State) (off : Offset) :
    (s.readAt off).wtu = s.wtu ∧ (s.readAt off).rgd = s.rgd := by
  unfold State.readAt
  split
  · simp [State.readChstat]
  · simp

/-! ### The processor's memory cycles -/

@[simp] theorem State.standAside_decoders (s : State) (c : Option CycleRecord) :
    (s.standAside c).wtu = s.wtu ∧ (s.standAside c).rgd = s.rgd := by
  unfold State.standAside
  split <;> simp

@[simp] theorem State.raiseClaim_decoders (s : State) (c : CycleRecord) :
    (s.raiseClaim c).wtu = s.wtu ∧ (s.raiseClaim c).rgd = s.rgd := by
  unfold State.raiseClaim
  dsimp only
  split <;> simp

@[simp] theorem State.checkCycle_decoders (s : State) (pins : BusPins) (dir : Direction) :
    (s.checkCycle pins dir).wtu = s.wtu ∧ (s.checkCycle pins dir).rgd = s.rgd := by
  unfold State.checkCycle
  dsimp only
  repeat' split
  all_goals simp

@[simp] theorem State.lookUpCycle_decoders (s : State) (pins : BusPins) :
    (s.lookUpCycle pins).wtu = s.wtu ∧ (s.lookUpCycle pins).rgd = s.rgd := by
  unfold State.lookUpCycle
  split <;> simp

@[simp] theorem State.beginMemoryCycle_decoders (s : State) (pins : BusPins) :
    (s.beginMemoryCycle pins).wtu = s.wtu ∧ (s.beginMemoryCycle pins).rgd = s.rgd := by
  unfold State.beginMemoryCycle
  dsimp only
  repeat' split
  all_goals simp

/-! ### The memory sequencer -/

@[simp] theorem State.finishAccess_decoders (s : State) (md : Byte) :
    (s.finishAccess md).wtu = s.wtu ∧ (s.finishAccess md).rgd = s.rgd := by
  unfold State.finishAccess
  split <;> simp

@[simp] theorem State.finishRead_decoders (s : State) (n : Fin 4) (dst : Access) (md : Byte) :
    (s.finishRead n dst md).wtu = s.wtu ∧ (s.finishRead n dst md).rgd = s.rgd := by
  simp [State.finishRead]

@[simp] theorem State.finishRowOpen_decoders (s : State) (w : Work) (a : Access) :
    (s.finishRowOpen w a).wtu = s.wtu ∧ (s.finishRowOpen w a).rgd = s.rgd := by
  unfold State.finishRowOpen
  dsimp only
  split <;> simp

@[simp] theorem State.finishRowClose_decoders (s : State) (w : Work) :
    (s.finishRowClose w).wtu = s.wtu ∧ (s.finishRowClose w).rgd = s.rgd := by
  unfold State.finishRowClose
  dsimp only
  repeat' split
  all_goals simp

@[simp] theorem State.timeoutUnit_decoders (s : State) (n : Fin 4) (a : Access) :
    (s.timeoutUnit n a).wtu = s.wtu ∧ (s.timeoutUnit n a).rgd = s.rgd := by
  unfold State.timeoutUnit
  dsimp only
  split <;> simp

@[simp] theorem State.reportTimeout_decoders (s : State) (a : Access) :
    (s.reportTimeout a).wtu = s.wtu ∧ (s.reportTimeout a).rgd = s.rgd := by
  unfold State.reportTimeout
  repeat' split
  all_goals simp

@[simp] theorem State.endInTimeout_decoders (s : State) (a : Access) :
    (s.endInTimeout a).wtu = s.wtu ∧ (s.endInTimeout a).rgd = s.rgd := by
  unfold State.endInTimeout
  dsimp only
  split <;> simp

end Sys2Proof.Machine
end

section
/-! The window translation unit (chapter 1): the lookup, the translation, the staging record, and what WLOAD and WREAD
do on a quiet bus. -/
namespace Sys2Proof.Machine

/-! ### The lookup and the translation (R3 to R6) -/

theorem Oct.getElem_toList {α : Type} (q : Oct α) (i : Fin 8) : q.toList[i.val]'(i.isLt) = q.get i := by
  match i with
  | 0 | 1 | 2 | 3 | 4 | 5 | 6 | 7 => rfl

theorem Oct.forall_mem_toList {α : Type} {q : Oct α} {p : α → Prop} : (∀ a ∈ q.toList, p a) ↔ ∀ i, p (q.get i) := by
  constructor
  · intro h i
    exact q.getElem_toList i ▸ h _ (List.getElem_mem _)
  · intro h a ha
    obtain ⟨i, hi, rfl⟩ := List.mem_iff_getElem.mp ha
    exact q.getElem_toList ⟨i, hi⟩ ▸ h ⟨i, hi⟩

theorem windowFor_none {t : Oct WindowEntry} {a : LogAddr} (h : ∀ i, (t.get i).contains (pageOf a) = false) :
    windowFor t a = none := by
  refine List.find?_eq_none.mpr (Oct.forall_mem_toList.mpr fun i => ?_)
  simp [h i]

theorem windowFor_lowest {t : Oct WindowEntry} {a : LogAddr} {i : Fin 8}
    (hi : (t.get i).contains (pageOf a) = true) (hlow : ∀ j < i, (t.get j).contains (pageOf a) = false) :
    windowFor t a = some (t.get i) := by
  refine List.find?_eq_some_iff_getElem.mpr ⟨hi, i.val, i.isLt, t.getElem_toList i, fun j hj => ?_⟩
  have hmiss := hlow ⟨j, hj.trans i.isLt⟩ hj
  rw [← t.getElem_toList] at hmiss
  exact (Bool.not_eq_true' _).mpr hmiss

theorem WindowEntry.allows_iff {w : WindowEntry} {dir : Direction} :
    w.allows dir = true ↔ dir = .read ∧ w.readRight = true ∨ dir = .write ∧ w.writeRight = true := by
  cases dir <;> simp [WindowEntry.allows]

/-- Inside a well-formed window the translated address stays below 2^24, so that nothing wraps (R1, R5). -/
theorem WindowEntry.translate_toNat {w : WindowEntry} {a : LogAddr} (hw : w.wf = true)
    (hc : w.contains (pageOf a) = true) :
    (w.translate a).toNat = w.frameBase.toNat * 4096 + (a.toNat - w.basePage.toNat * 4096) := by
  obtain ⟨_, _, hframe⟩ := WindowEntry.wf_iff.mp hw
  obtain ⟨_, hlo, hhi⟩ := WindowEntry.contains_iff.mp hc
  rw [WindowEntry.translate, BitVec.toNat_ofNat]
  apply Nat.mod_eq_of_lt
  simp only [pageOf] at hlo hhi
  omega

theorem WindowEntry.translate_exact {w : WindowEntry} {a : LogAddr} (hw : w.wf = true)
    (hc : w.contains (pageOf a) = true) :
    (w.translate a).toNat + w.basePage.toNat * 4096 = w.frameBase.toNat * 4096 + a.toNat := by
  obtain ⟨_, hlo, _⟩ := WindowEntry.contains_iff.mp hc
  rw [WindowEntry.translate_toNat hw hc]
  simp only [pageOf] at hlo
  omega

/-- Settles O15: the search of the eight entries in order finds the lowest window, and the bounds of R1 keep its
translation from wrapping. -/
theorem lowestWindowAnswersAndTranslates : Obligations.LowestWindowAnswersAndTranslates := by
  refine ⟨fun w page => WindowEntry.contains_iff, fun a => rfl, fun w => WindowEntry.wf_iff,
    fun t a dir => ⟨fun hnone => ?_, fun i hi hlow => ?_⟩, fun w a hw hc => ?_⟩
  · rw [windowVerdict, windowFor_none hnone]
  · simp only [windowVerdict, windowFor_lowest hi hlow, WindowEntry.allows_iff]
  · have hexact := WindowEntry.translate_exact hw hc
    refine ⟨hexact, ?_, ?_⟩
    · simp only [frameOf, pageOf]
      omega
    · omega

/-! ### The staging record (R8 to R11) -/

theorem WindowStaging.ok_iff {w : WindowStaging} :
    w.ok = true ↔ 1 ≤ w.wcount.toNat ∧ w.wcount.toNat ≤ 16 ∧ w.wbase.toNat + w.wcount.toNat ≤ 16 ∧
      w.wframe.toNat + w.wcount.toNat ≤ 4096 := by
  simp [WindowStaging.ok, and_assoc]

/-- A record that passes the check loses no bit of its base page in the four bits of the entry. -/
theorem WindowStaging.entry_basePage_toNat {w : WindowStaging} (h : w.ok = true) :
    w.entry.basePage.toNat = w.wbase.toNat := by
  obtain ⟨hone, _, hpage, _⟩ := WindowStaging.ok_iff.mp h
  exact (BitVec.toNat_setWidth ..).trans (Nat.mod_eq_of_lt (by omega))

/-- A record that passes the check loses no bit of its frame base in the twelve bits of the entry. -/
theorem WindowStaging.entry_frameBase_toNat {w : WindowStaging} (h : w.ok = true) :
    w.entry.frameBase.toNat = w.wframe.toNat := by
  obtain ⟨hone, _, _, hframe⟩ := WindowStaging.ok_iff.mp h
  exact (BitVec.toNat_setWidth ..).trans (Nat.mod_eq_of_lt (by omega))

theorem WindowStaging.entry_wf {w : WindowStaging} (h : w.ok = true) : w.entry.wf = true := by
  obtain ⟨hone, _, hpage, hframe⟩ := WindowStaging.ok_iff.mp h
  rw [WindowEntry.wf_iff, WindowStaging.entry_basePage_toNat h, WindowStaging.entry_frameBase_toNat h]
  exact ⟨hone, hpage, hframe⟩

theorem WindowEntry.staging_wbase_toNat (e : WindowEntry) : e.staging.wbase.toNat = e.basePage.toNat :=
  (BitVec.toNat_setWidth ..).trans (Nat.mod_eq_of_lt (by omega))

theorem WindowEntry.staging_wframe_toNat (e : WindowEntry) : e.staging.wframe.toNat = e.frameBase.toNat :=
  (BitVec.toNat_setWidth ..).trans (Nat.mod_eq_of_lt (by omega))

theorem WindowEntry.staging_wcount_toNat {e : WindowEntry} (h : e.wf = true) :
    e.staging.wcount.toNat = e.pageCount := by
  obtain ⟨_, hpage, _⟩ := WindowEntry.wf_iff.mp h
  exact (BitVec.toNat_ofNat ..).trans (Nat.mod_eq_of_lt (by omega))

/-- The three flags of WFLAGS stand at bits 2, 1 and 0 (11.8). -/
theorem getLsbD_flags : ∀ b2 b1 b0 : Bool,
    (BitVec.ofBool b2 ++ BitVec.ofBool b1 ++ BitVec.ofBool b0).getLsbD 0 = b0 ∧
    (BitVec.ofBool b2 ++ BitVec.ofBool b1 ++ BitVec.ofBool b0).getLsbD 1 = b1 ∧
    (BitVec.ofBool b2 ++ BitVec.ofBool b1 ++ BitVec.ofBool b0).getLsbD 2 = b2 := by decide

theorem WindowEntry.staging_wflags (e : WindowEntry) :
    e.staging.wflags.getLsbD 0 = e.enable ∧ e.staging.wflags.getLsbD 1 = e.readRight ∧
      e.staging.wflags.getLsbD 2 = e.writeRight :=
  getLsbD_flags e.writeRight e.readRight e.enable

/-- The record WREAD writes for an entry passes the check of WLOAD. -/
theorem WindowEntry.staging_ok {e : WindowEntry} (h : e.wf = true) : e.staging.ok = true := by
  obtain ⟨hone, hpage, hframe⟩ := WindowEntry.wf_iff.mp h
  rw [WindowStaging.ok_iff, e.staging_wbase_toNat, e.staging_wframe_toNat, WindowEntry.staging_wcount_toNat h]
  omega

/-- The record WREAD writes for an entry spells that entry. -/
theorem WindowEntry.entry_staging {e : WindowEntry} (h : e.wf = true) : e.staging.entry = e := by
  have hok := WindowEntry.staging_ok h
  have hbase : e.staging.entry.basePage = e.basePage := BitVec.eq_of_toNat_eq
    ((WindowStaging.entry_basePage_toNat hok).trans e.staging_wbase_toNat)
  have hframe : e.staging.entry.frameBase = e.frameBase := BitVec.eq_of_toNat_eq
    ((WindowStaging.entry_frameBase_toNat hok).trans e.staging_wframe_toNat)
  obtain ⟨henable, hread, hwrite⟩ := e.staging_wflags
  calc e.staging.entry
      = { enable := e.staging.wflags.getLsbD 0, basePage := e.staging.entry.basePage,
          pageCount := e.staging.wcount.toNat, frameBase := e.staging.entry.frameBase,
          readRight := e.staging.wflags.getLsbD 1, writeRight := e.staging.wflags.getLsbD 2 } := rfl
    _ = e := by
      rw [hbase, hframe, WindowEntry.staging_wcount_toNat h, henable, hread, hwrite]

/-! ### WLOAD and WREAD -/

theorem State.wload_badIndex {s : State} {data : Byte} (h : 8 ≤ data.toNat) :
    s.wload data = s.setResult .badIndex := by
  rw [State.wload, index8_none h]

theorem State.wload_badRecord {s : State} {data : Byte} {i : Fin 8} (hi : data.toNat = i.val)
    (h : s.wtu.staging.ok = false) : s.wload data = s.setResult .badRecord := by
  simp [State.wload, index8_of_val hi, h]

theorem State.wload_taken {s : State} {data : Byte} {i : Fin 8} (hi : data.toNat = i.val)
    (h : s.wtu.staging.ok = true) :
    s.wload data =
      ({ s with wtu := { s.wtu with windows := s.wtu.windows.set i s.wtu.staging.entry } } : State).setResult .ok := by
  simp [State.wload, index8_of_val hi, h]

theorem State.wread_badIndex {s : State} {data : Byte} (h : 8 ≤ data.toNat) :
    s.wread data = s.setResult .badIndex := by
  rw [State.wread, index8_none h]

theorem State.wread_index {s : State} {data : Byte} {i : Fin 8} (hi : data.toNat = i.val) :
    s.wread data =
      ({ s with wtu := { s.wtu with staging := (s.wtu.windows.get i).staging } } : State).setResult .ok := by
  rw [State.wread, index8_of_val hi]

theorem exec_wload_quiet {s : State} (hs : s.busQuiet) (data : Byte) :
    exec (.wload data) s = .next (s.released.wload data) :=
  congrArg Host.Outcome.next (State.windowCycle_quiet hs _)

theorem exec_wread_quiet {s : State} (hs : s.busQuiet) (data : Byte) :
    exec (.wread data) s = .next (s.released.wread data) :=
  congrArg Host.Outcome.next (State.windowCycle_quiet hs _)

/-- Settles O17, case by case along the checks of WLOAD. -/
theorem windowLoadReplacesTheEntry : Obligations.WindowLoadReplacesTheEntry := by
  intro data s hs
  rw [exec_wload_quiet hs]
  refine ⟨fun hbad => by rw [State.wload_badIndex hbad], fun i hi => ⟨fun hbad => ?_, fun h1 h2 h3 h4 => ?_⟩⟩
  · have hrefused : s.released.wtu.staging.ok = false := by
      rw [← Bool.not_eq_true, State.released_wtu, WindowStaging.ok_iff]
      omega
    rw [State.wload_badRecord hi hrefused]
  · have hok : s.wtu.staging.ok = true := WindowStaging.ok_iff.mpr ⟨h1, h2, h3, h4⟩
    refine ⟨s.wtu.staging.entry, ?_, rfl, rfl, rfl, WindowStaging.entry_basePage_toNat hok, rfl,
      WindowStaging.entry_frameBase_toNat hok⟩
    exact congrArg Host.Outcome.next (State.wload_taken (s := s.released) hi hok)

/-- With an entry in the staging record and its index named, WLOAD writes over the entry what stands there (R11). -/
theorem State.wload_of_read_back {s : State} {data : Byte} {i : Fin 8} (hi : data.toNat = i.val)
    (hwf : (s.wtu.windows.get i).wf = true) (hst : s.wtu.staging = (s.wtu.windows.get i).staging) :
    s.wload data = s.setResult .ok := by
  have hok : s.wtu.staging.ok = true := hst ▸ WindowEntry.staging_ok hwf
  have hset : s.wtu.windows.set i s.wtu.staging.entry = s.wtu.windows := by
    rw [hst, WindowEntry.entry_staging hwf, Oct.set_get]
  rw [State.wload_taken hi hok, hset]

/-- Settles O18: the staging record WREAD leaves spells the entry it was read from, so that a WLOAD stores that entry
again, with RESULT at OK already and D0 to D7 released already. -/
theorem windowReadBackReloads : Obligations.WindowReadBackReloads := by
  intro data s hs
  rw [exec_wread_quiet hs]
  refine ⟨fun hbad => by rw [State.wread_badIndex hbad], fun i hi hwf => ?_⟩
  rw [State.wread_index hi]
  obtain ⟨henable, hread, hwrite⟩ := (s.wtu.windows.get i).staging_wflags
  refine ⟨(s.wtu.windows.get i).staging, rfl, WindowEntry.staging_wbase_toNat _,
    WindowEntry.staging_wcount_toNat hwf, WindowEntry.staging_wframe_toNat _, henable, hread, hwrite, ?_⟩
  rintro t ⟨⟩
  rw [exec_wload_quiet (by exact hs), State.wload_of_read_back hi (by exact hwf) rfl]
  rfl

end Sys2Proof.Machine
end

section
/-! Every step keeps the tables in order (R1, R15, R25). A command that is a register window write does what its offset
asks, and of the writes only WLOAD and RLOAD replace an entry; pin reset restores both tables; every other command, and
the clock, leave the WTU and the RGD as they stand. -/
namespace Sys2Proof.Machine

/-! ### The events that leave the WTU and the RGD as they stand -/

/-- The outcome is a next state whose WTU and RGD are those of `s`. -/
def KeepsDecoders (s : State) (o : Host.Outcome State Fault Refusal) : Prop :=
  ∃ t, o = .next t ∧ t.wtu = s.wtu ∧ t.rgd = s.rgd

@[simp] theorem keepsDecoders_next {s t : State} : KeepsDecoders s (.next t) ↔ t.wtu = s.wtu ∧ t.rgd = s.rgd := by
  simp [KeepsDecoders]

theorem KeepsDecoders.nextOr {s : State} {o : Host.Outcome State Fault Refusal} (h : KeepsDecoders s o) (u : State) :
    (nextOr u o).wtu = s.wtu ∧ (nextOr u o).rgd = s.rgd := by
  obtain ⟨t, rfl, ht⟩ := h
  exact ht

theorem execTrqDeassert_keepsDecoders (n : Fin 4) (s : State) : KeepsDecoders s (execTrqDeassert n s) := by
  unfold execTrqDeassert
  dsimp only
  split <;> simp

theorem execUnitComplete_keepsDecoders (s : State) : KeepsDecoders s (execUnitComplete s) := by
  unfold execUnitComplete
  repeat' split
  all_goals simp

theorem execPendingFlagsActed_keepsDecoders (n : Fin 4) (s : State) :
    KeepsDecoders s (execPendingFlagsActed n s) := by
  unfold execPendingFlagsActed
  split <;> simp

theorem execConfigurationInUse_keepsDecoders (n : Fin 4) (s : State) :
    KeepsDecoders s (execConfigurationInUse n s) := by
  unfold execConfigurationInUse
  split <;> simp

theorem execIntervalTimerExpiry_keepsDecoders (s : State) : KeepsDecoders s (execIntervalTimerExpiry s) := by
  unfold execIntervalTimerExpiry
  split <;> simp

theorem execRefresh_keepsDecoders (s : State) : KeepsDecoders s (execRefresh s) := by
  unfold execRefresh
  repeat' split
  all_goals simp

theorem execParkStep_keepsDecoders (s : State) : KeepsDecoders s (execParkStep s) := by
  unfold execParkStep
  split <;> simp

theorem execSelfRefreshEnter_keepsDecoders (s : State) : KeepsDecoders s (execSelfRefreshEnter s) := by
  unfold execSelfRefreshEnter
  repeat' split
  all_goals simp

theorem execSelfRefreshExit_keepsDecoders (s : State) : KeepsDecoders s (execSelfRefreshExit s) := by
  unfold execSelfRefreshExit
  repeat' split
  all_goals simp

theorem execCycleEnd_keepsDecoders (s : State) : KeepsDecoders s (execCycleEnd s) := by
  unfold execCycleEnd
  split <;> simp

theorem execAccessComplete_keepsDecoders (md : Byte) (s : State) : KeepsDecoders s (execAccessComplete md s) := by
  unfold execAccessComplete
  dsimp only
  repeat' split
  all_goals simp

theorem execUnitReadComplete_keepsDecoders (md : Byte) (s : State) :
    KeepsDecoders s (execUnitReadComplete md s) := by
  unfold execUnitReadComplete
  repeat' split
  all_goals simp

theorem execRowOpen_keepsDecoders (s : State) : KeepsDecoders s (execRowOpen s) := by
  unfold execRowOpen
  repeat' split
  all_goals simp

theorem execRowClose_keepsDecoders (s : State) : KeepsDecoders s (execRowClose s) := by
  unfold execRowClose
  split <;> simp

theorem execTimeout_keepsDecoders (s : State) : KeepsDecoders s (execTimeout s) := by
  unfold execTimeout
  split <;> simp

theorem execResidualEnd_keepsDecoders (s : State) : KeepsDecoders s (execResidualEnd s) := by
  unfold execResidualEnd
  repeat' split
  all_goals simp

/-! ### Register window cycles -/

/-- A new cycle of the processor touches the PBI alone. -/
theorem State.newCycle_eq (s : State) : s.newCycle = { s with pbi := s.newCycle.pbi } := by
  unfold State.newCycle State.endCycle
  repeat' split
  all_goals rfl

/-- A register window cycle changes the PBI, and then is served or not. -/
theorem State.windowCycle_cases (s : State) (f : State → State) :
    (∃ p, s.windowCycle f = { s with pbi := p }) ∨ (∃ p, s.windowCycle f = f { s with pbi := p }) := by
  unfold State.windowCycle
  rw [s.newCycle_eq]
  dsimp only
  repeat' split
  · exact .inl ⟨s.pbi, rfl⟩
  · exact .inl ⟨_, rfl⟩
  · exact .inr ⟨_, rfl⟩

/-- The command of a register window write does what a write of its byte does at its offset (R154). -/
theorem exec_of_windowWrite {c : Instr} {off : Offset} {data : Byte} (h : c.windowWrite = some (off, data))
    (s : State) : exec c s = .next (s.windowCycle (fun t => t.writeAt off data)) := by
  cases c with
  | rfintWrite high _ => cases high <;> cases h <;> rfl
  | _ => cases h <;> rfl

/-- Of the commands that write no register of the window, only pin reset and a held cycle served can change the WTU or
the RGD. -/
theorem exec_keepsDecoders {c : Instr} (hwrite : c.windowWrite = none) (hreset : c ≠ .pinReset)
    (hheld : ∀ pins, c ≠ .heldCycleServed pins) (s : State) : KeepsDecoders s (exec c s) := by
  cases c with
  | enq | start | hold | resume | skip | flush | wload | wread | rload | rread | logpop | fltpop | park | wake
  | ctlrst | rfintWrite | rfurgWrite | chcfgWrite | intcauseWrite | intenWrite | arbmodeWrite | registerWrite =>
    cases hwrite
  | pinReset => exact absurd rfl hreset
  | heldCycleServed pins => exact absurd rfl (hheld pins)
  | chstatRead off =>
    refine ⟨_, rfl, ?_⟩
    rcases s.windowCycle_cases (fun t => t.readAt off) with ⟨p, h⟩ | ⟨p, h⟩ <;> simp [h]
  | memoryCycle pins => exact ⟨_, rfl, s.beginMemoryCycle_decoders pins⟩
  | trqAssert n => exact ⟨_, rfl, s.trqEdge_decoders n⟩
  | portGrant => exact ⟨_, rfl, s.grantDecision_decoders⟩
  | completionRecordTaken => exact ⟨_, rfl, s.takeWaiting_decoders⟩
  | cycleEnd => exact execCycleEnd_keepsDecoders s
  | trqDeassert n => exact execTrqDeassert_keepsDecoders n s
  | accessComplete md => exact execAccessComplete_keepsDecoders md s
  | unitReadComplete md => exact execUnitReadComplete_keepsDecoders md s
  | unitComplete => exact execUnitComplete_keepsDecoders s
  | pendingFlagsActed n => exact execPendingFlagsActed_keepsDecoders n s
  | configurationInUse n => exact execConfigurationInUse_keepsDecoders n s
  | rowOpen => exact execRowOpen_keepsDecoders s
  | rowClose => exact execRowClose_keepsDecoders s
  | timeout => exact execTimeout_keepsDecoders s
  | residualEnd => exact execResidualEnd_keepsDecoders s
  | refresh => exact execRefresh_keepsDecoders s
  | intervalTimerExpiry => exact execIntervalTimerExpiry_keepsDecoders s
  | parkStep => exact execParkStep_keepsDecoders s
  | selfRefreshEnter => exact execSelfRefreshEnter_keepsDecoders s
  | selfRefreshExit => exact execSelfRefreshExit_keepsDecoders s

/-! ### The clock -/

@[simp] theorem State.clockTimer_decoders (s : State) :
    s.clockTimer.wtu = s.wtu ∧ s.clockTimer.rgd = s.rgd := by
  unfold State.clockTimer
  repeat' split
  all_goals simp

@[simp] theorem State.completeAccess_decoders (s : State) :
    s.completeAccess.wtu = s.wtu ∧ s.completeAccess.rgd = s.rgd := by
  unfold State.completeAccess
  repeat' split
  · exact (execResidualEnd_keepsDecoders s).nextOr s
  · exact (execAccessComplete_keepsDecoders _ s.useFree).nextOr s
  · exact (execUnitReadComplete_keepsDecoders _ s.useFree).nextOr s
  · exact (execUnitComplete_keepsDecoders s).nextOr s
  · exact ⟨rfl, rfl⟩

@[simp] theorem State.sample_decoders (s : State) (a : Access) :
    (s.sample a).wtu = s.wtu ∧ (s.sample a).rgd = s.rgd := by
  unfold State.sample
  repeat' split
  all_goals simp

@[simp] theorem State.endOp_decoders (s : State) (o : Operation) :
    (s.endOp o).wtu = s.wtu ∧ (s.endOp o).rgd = s.rgd := by
  unfold State.endOp
  cases o.kind with
  | read | write =>
    dsimp only
    split <;> simp
  | rowOpen => exact (execRowOpen_keepsDecoders s).nextOr s
  | rowClose row penalty => exact (execRowClose_keepsDecoders s).nextOr s
  | refresh => exact (execRefresh_keepsDecoders s).nextOr s
  | selfRefreshEnter => exact (execSelfRefreshEnter_keepsDecoders s).nextOr s
  | selfRefreshExit => exact (execSelfRefreshExit_keepsDecoders s).nextOr s

@[simp] theorem State.clockOp_decoders (s : State) : s.clockOp.wtu = s.wtu ∧ s.clockOp.rgd = s.rgd := by
  unfold State.clockOp
  repeat' split
  all_goals simp

@[simp] theorem State.clock_decoders (s : State) : s.clock.wtu = s.wtu ∧ s.clock.rgd = s.rgd := by
  unfold State.clock
  repeat' split
  all_goals simp

@[simp] theorem State.idle_decoders (s : State) : s.idle.wtu = s.wtu ∧ s.idle.rgd = s.rgd := by
  unfold State.idle
  repeat' split
  all_goals simp

/-! ### The writes that replace an entry -/

theorem State.tablesOk_of_eq {s t : State} (h : s.TablesOk) (hw : t.wtu.windows = s.wtu.windows)
    (hr : t.rgd.regions = s.rgd.regions) : t.TablesOk := by
  simpa only [State.TablesOk, hw, hr] using h

/-- With the WTU and the RGD as they stand, the tables stay in order. -/
theorem State.tablesOk_of_decoders {s t : State} (h : s.TablesOk) (ht : t.wtu = s.wtu ∧ t.rgd = s.rgd) :
    t.TablesOk :=
  State.tablesOk_of_eq h (congrArg Wtu.windows ht.1) (congrArg Rgd.regions ht.2)

theorem State.wload_tablesOk {s : State} (h : s.TablesOk) (data : Byte) : (s.wload data).TablesOk := by
  unfold State.wload
  split
  next => exact h
  next i _ =>
    split
    next hok =>
      obtain ⟨hwin, hreg⟩ := h
      refine ⟨fun j => ?_, hreg⟩
      by_cases hj : j = i
      · subst hj
        simpa using WindowStaging.entry_wf hok
      · simpa [Oct.get_set_ne _ _ hj] using hwin j
    next => exact h

theorem State.wread_tablesOk {s : State} (h : s.TablesOk) (data : Byte) : (s.wread data).TablesOk := by
  unfold State.wread
  split <;> exact h

theorem State.rread_tablesOk {s : State} (h : s.TablesOk) (data : Byte) : (s.rread data).TablesOk := by
  unfold State.rread
  split <;> exact h

/-- RLOAD takes a staged record only when the entry it spells meets the conditions of R15 (R24). -/
theorem RegionStaging.entry_wf {w : RegionStaging} {e : RegionEntry} (h : w.entry = some e) : e.wf = true := by
  unfold RegionStaging.entry at h
  split at h
  next =>
    dsimp only at h
    split at h
    next hc =>
      cases h
      exact hc.2.2
    next => cases h
  next => cases h

theorem RegionEntry.shares_comm (a b : RegionEntry) : a.shares b = b.shares a := by
  simp only [RegionEntry.shares, Bool.and_comm]

theorem mem_allFour (n : Fin 4) : n ∈ allFour := by
  match n with
  | 0 | 1 | 2 | 3 => decide

/-- A record that passes the OVERLAP check shares no frame with another enabled region (R25). -/
theorem shares_false_of_overlaps_false {t : Quad RegionEntry} {n m : Fin 4} {e : RegionEntry}
    (h : overlaps t n e = false) (he : e.enable = true) (hm : m ≠ n) (hen : (t.get m).enable = true) :
    e.shares (t.get m) = false := by
  simp only [overlaps, he, Bool.true_and, List.any_eq_false] at h
  simpa [hm, hen] using h m (mem_allFour m)

@[simp] theorem State.loadRegion_wtu (s : State) (r : Fin 4) (e : RegionEntry) : (s.loadRegion r e).wtu = s.wtu := by
  simp [State.loadRegion]

@[simp] theorem State.loadRegion_rgd (s : State) (r : Fin 4) (e : RegionEntry) :
    (s.loadRegion r e).rgd = { s.rgd with regions := s.rgd.regions.set r e } := by
  simp [State.loadRegion]

theorem State.loadRegion_tablesOk {s : State} (h : s.TablesOk) {r : Fin 4} {e : RegionEntry} (hwf : e.wf = true)
    (hov : overlaps s.rgd.regions r e = false) : (s.loadRegion r e).TablesOk := by
  obtain ⟨hwin, hreg, hapart⟩ := h
  refine ⟨by simpa using hwin, fun j => ?_, fun j k hjk hj hk => ?_⟩
  · rw [State.loadRegion_rgd, Quad.get_set]
    split
    · exact hwf
    · exact hreg j
  · rw [State.loadRegion_rgd, Quad.get_set] at hj hk ⊢
    rw [Quad.get_set]
    by_cases hjr : j = r
    · have hkr : k ≠ r := fun hkr => hjk (hjr.trans hkr.symm)
      rw [if_pos hjr] at hj ⊢
      rw [if_neg hkr] at hk ⊢
      exact shares_false_of_overlaps_false hov hj hkr hk
    · rw [if_neg hjr] at hj ⊢
      by_cases hkr : k = r
      · rw [if_pos hkr] at hk ⊢
        rw [RegionEntry.shares_comm]
        exact shares_false_of_overlaps_false hov hk hjr hj
      · rw [if_neg hkr] at hk ⊢
        exact hapart j k hjk hj hk

theorem State.rload_tablesOk {s : State} (h : s.TablesOk) (data : Byte) : (s.rload data).TablesOk := by
  unfold State.rload
  split
  next => exact h
  next r _ =>
    split
    next => exact h
    next e he =>
      split
      next => exact h
      next hov => exact State.loadRegion_tablesOk h (RegionStaging.entry_wf he) (by simpa using hov)

/-! ### Every write and every command -/

theorem State.writePlain_tables (s : State) (off : Offset) (b : Byte) :
    (s.writePlain off b).wtu.windows = s.wtu.windows ∧ (s.writePlain off b).rgd.regions = s.rgd.regions := by
  unfold State.writePlain
  dsimp only
  split <;> exact ⟨rfl, rfl⟩

theorem State.writeAt_tablesOk {s : State} (h : s.TablesOk) (off : Offset) (b : Byte) :
    (s.writeAt off b).TablesOk := by
  have keeps {t : State} (ht : t.wtu = s.wtu ∧ t.rgd = s.rgd) : t.TablesOk := State.tablesOk_of_decoders h ht
  unfold State.writeAt
  split
  · exact keeps (s.channelStrobe_decoders b s.enqOn_decoders)
  · exact keeps (s.channelStrobe_decoders b s.startOn_decoders)
  · exact keeps (s.channelStrobe_decoders b s.holdOn_decoders)
  · exact keeps (s.channelStrobe_decoders b s.resumeOn_decoders)
  · exact keeps (s.channelStrobe_decoders b s.skipOn_decoders)
  · exact keeps (s.channelStrobe_decoders b s.flushOn_decoders)
  · exact keeps (s.writeChcfg_decoders b)
  · exact State.wload_tablesOk h b
  · exact State.wread_tablesOk h b
  · exact State.rload_tablesOk h b
  · exact State.rread_tablesOk h b
  · exact keeps s.logpop_decoders
  · exact keeps s.fltpop_decoders
  · exact h
  · exact h
  · exact keeps (s.writeRfurg_decoders b)
  · exact keeps s.park_decoders
  · exact keeps s.wake_decoders
  · exact h
  · exact h
  · exact h
  · exact keeps s.controllerReset_decoders
  · obtain ⟨hw, hr⟩ := s.writePlain_tables off b
    exact State.tablesOk_of_eq h hw hr

theorem State.serveWindow_tablesOk {s : State} (h : s.TablesOk) (pins : BusPins) : (s.serveWindow pins).TablesOk := by
  unfold State.serveWindow
  dsimp only
  split
  · exact State.tablesOk_of_decoders h (s.readAt_decoders _)
  · exact State.writeAt_tablesOk h _ _
  · exact h
  · exact h

theorem State.pinReset_tablesOk (s : State) : s.pinReset.TablesOk :=
  State.tablesOk_of_decoders (s := State.reset) (by decide) ⟨rfl, rfl⟩

theorem execHeldCycleServed_tablesOk {s t : State} {pins : BusPins} (h : s.TablesOk)
    (ht : execHeldCycleServed pins s = .next t) : t.TablesOk := by
  unfold execHeldCycleServed at ht
  repeat' split at ht
  all_goals cases ht
  · exact State.tablesOk_of_decoders h (State.lookUpCycle_decoders _ pins)
  · exact State.serveWindow_tablesOk (by exact h) pins
  · exact h
  · exact h

theorem exec_tablesOk {c : Instr} {s t : State} (h : s.TablesOk) (ht : exec c s = .next t) : t.TablesOk := by
  cases hw : c.windowWrite with
  | some w =>
    obtain ⟨off, data⟩ := w
    rw [exec_of_windowWrite hw] at ht
    cases ht
    rcases s.windowCycle_cases (fun u => u.writeAt off data) with ⟨p, hp⟩ | ⟨p, hp⟩
    · rw [hp]
      exact h
    · rw [hp]
      exact State.writeAt_tablesOk (by exact h) off data
  | none =>
    by_cases hreset : c = .pinReset
    · subst hreset
      cases ht
      exact s.pinReset_tablesOk
    · by_cases hheld : ∃ pins, c = .heldCycleServed pins
      · obtain ⟨pins, rfl⟩ := hheld
        exact execHeldCycleServed_tablesOk h ht
      · obtain ⟨u, hu, hdec⟩ := exec_keepsDecoders hw hreset (not_exists.mp hheld) s
        cases hu.symm.trans ht
        exact State.tablesOk_of_decoders h hdec

/-- Settles O5: with a command waiting by the cases of `exec_tablesOk`; with none, nothing the part does of itself
touches a table. -/
theorem stepKeepsTablesWellFormed : Obligations.StepKeepsTablesWellFormed := by
  intro s t h ht
  unfold step at ht
  split at ht
  · cases ht
    exact State.tablesOk_of_decoders h s.idle_decoders
  · exact exec_tablesOk (by exact h) ht

end Sys2Proof.Machine
end

section
/-! The region unit (chapter 2): the region and the row of an address, and the entry a staged record spells. -/
namespace Sys2Proof.Machine

/-! ### The region and the row of an address (R17, R19) -/

/-- Two regions that contain one frame share it. -/
theorem RegionEntry.shares_of_contains {a b : RegionEntry} {frame : Nat} (ha : a.contains frame = true)
    (hb : b.contains frame = true) : a.shares b = true := by
  obtain ⟨_, haStart, haEnd⟩ := RegionEntry.contains_iff.mp ha
  obtain ⟨_, hbStart, hbEnd⟩ := RegionEntry.contains_iff.mp hb
  exact RegionEntry.shares_iff.mpr ⟨haStart.trans hbEnd, hbStart.trans haEnd⟩

/-- With the tables in order, at most one region contains a frame (R25). -/
theorem State.TablesOk.region_unique {s : State} (hs : s.TablesOk) {m n : Fin 4} {frame : Nat}
    (hm : (s.rgd.regions.get m).contains frame = true) (hn : (s.rgd.regions.get n).contains frame = true) :
    m = n := by
  obtain ⟨_, _, hapart⟩ := hs
  by_contra hne
  have hshare := RegionEntry.shares_of_contains hm hn
  obtain ⟨hmEnable, _⟩ := RegionEntry.contains_iff.mp hm
  obtain ⟨hnEnable, _⟩ := RegionEntry.contains_iff.mp hn
  rw [hapart m n hne hmEnable hnEnable] at hshare
  cases hshare

theorem regionOf_isSome {t : Quad RegionEntry} {a : PhysAddr} {n : Fin 4}
    (h : (t.get n).contains (frameOf a) = true) : (regionOf t a).isSome = true :=
  List.find?_isSome.mpr ⟨n, mem_allFour n, h⟩

theorem State.TablesOk.regionOf_eq_some_iff {s : State} (hs : s.TablesOk) {a : PhysAddr} {n : Fin 4} :
    regionOf s.rgd.regions a = some n ↔ (s.rgd.regions.get n).contains (frameOf a) = true := by
  refine ⟨regionOf_some, fun hn => ?_⟩
  obtain ⟨m, hm⟩ := Option.isSome_iff_exists.mp (regionOf_isSome hn)
  rw [hm, hs.region_unique (regionOf_some hm) hn]

/-- A frame holds a whole number of rows (R17). -/
theorem RowSize.bytes_dvd_frame (z : RowSize) : z.bytes ∣ 4096 := by
  cases z <;> decide

theorem RowSize.bytes_pos (z : RowSize) : 0 < z.bytes := Nat.pos_of_dvd_of_pos z.bytes_dvd_frame (by decide)

/-- An address inside a region is at or above the first byte of the region. -/
theorem RegionEntry.start_le_of_contains {e : RegionEntry} {a : PhysAddr} (h : e.contains (frameOf a) = true) :
    e.startFrame.toNat * 4096 ≤ a.toNat := by
  obtain ⟨_, hstart, _⟩ := RegionEntry.contains_iff.mp h
  simp only [frameOf] at hstart
  omega

/-- The row of an address inside a region starts at or below the address, so that its start does not wrap. -/
theorem RegionEntry.rowStart_toNat {e : RegionEntry} {a : PhysAddr} (h : e.contains (frameOf a) = true) :
    (e.rowStart (e.rowOf a)).toNat = e.startFrame.toNat * 4096 + e.rowOf a * e.rowSize.bytes := by
  have hstart := RegionEntry.start_le_of_contains h
  have hrow : e.rowOf a * e.rowSize.bytes ≤ a.toNat - e.startFrame.toNat * 4096 := Nat.div_mul_le_self _ _
  rw [RegionEntry.rowStart, BitVec.toNat_ofNat]
  exact Nat.mod_eq_of_lt (by omega)

theorem RegionEntry.mem_row {e : RegionEntry} {a : PhysAddr} (h : e.contains (frameOf a) = true) :
    (e.rowStart (e.rowOf a)).toNat ≤ a.toNat ∧ a.toNat < (e.rowStart (e.rowOf a)).toNat + e.rowSize.bytes := by
  have hstart := RegionEntry.start_le_of_contains h
  have hsplit : e.rowSize.bytes * e.rowOf a + (a.toNat - e.startFrame.toNat * 4096) % e.rowSize.bytes =
      a.toNat - e.startFrame.toNat * 4096 := Nat.div_add_mod _ _
  have hrest := Nat.mod_lt (a.toNat - e.startFrame.toNat * 4096) e.rowSize.bytes_pos
  rw [RegionEntry.rowStart_toNat h, Nat.mul_comm (e.rowOf a)]
  omega

/-- No row spans two frames: row starts are multiples of a divisor of the frame size (R17). -/
theorem RegionEntry.frameOf_rowStart {e : RegionEntry} {a : PhysAddr} (h : e.contains (frameOf a) = true) :
    frameOf (e.rowStart (e.rowOf a)) = frameOf a := by
  obtain ⟨hle, hlt⟩ := RegionEntry.mem_row h
  have hrow := RegionEntry.rowStart_toNat h
  simp only [frameOf]
  cases hz : e.rowSize <;> simp only [hz, RowSize.bytes] at hrow hlt <;> omega

/-- Settles O16: regions that are apart make the search unambiguous, and the row size divides the frame size. -/
theorem regionAndRowOfAnAddress : Obligations.RegionAndRowOfAnAddress :=
  ⟨fun _ _ _ hs => hs.regionOf_eq_some_iff, fun _ _ => RegionEntry.contains_iff, fun _ => rfl,
    fun _ => RegionEntry.wf_iff, ⟨rfl, rfl, rfl, rfl⟩, fun _ _ h =>
      have ⟨hle, hlt⟩ := RegionEntry.mem_row h
      ⟨RegionEntry.rowStart_toNat h, rfl, hle, hlt, RegionEntry.frameOf_rowStart h⟩⟩

/-! ### The staging record (R23, R24, R30) -/

theorem regionKindOf_eq_some_iff {c : BitVec 2} {k : RegionKind} : regionKindOf c = some k ↔ k.code = c := by
  revert c
  cases k <;> decide

theorem regionKindOf_code (k : RegionKind) : regionKindOf k.code = some k := regionKindOf_eq_some_iff.mpr rfl

theorem regionKindOf_isSome_iff {c : BitVec 2} : (regionKindOf c).isSome = true ↔ c.toNat ≤ 1 := by
  revert c
  decide

theorem rowSizeOf_isSome_iff {c : BitVec 3} : (rowSizeOf c).isSome = true ↔ c.toNat ≤ 3 := by
  revert c
  decide

theorem rowSizeOf_eq_some_iff {c : BitVec 3} {z : RowSize} : rowSizeOf c = some z ↔ z.code = c := by
  revert c
  cases z <;> decide

theorem rowSizeOf_code (z : RowSize) : rowSizeOf z.code = some z := rowSizeOf_eq_some_iff.mpr rfl

/-- A staged record spells an entry: the layout of RSTART, REND, RKIND and RATTR (R23, 11.8), with the conditions that
RLOAD checks (R24). -/
structure RegionStaging.Spells (g : RegionStaging) (e : RegionEntry) : Prop where
  start : e.startFrame.toNat = g.rstart.toNat
  stop : e.endFrame.toNat = g.rend.toNat
  enable : e.enable = g.rkind.getLsbD 0
  kind : e.kind.code = g.rkind.extractLsb' 1 2
  rowSize : e.rowSize.code = g.rkind.extractLsb' 3 3
  wait : e.wait = g.rattr.extractLsb' 0 3
  rowPenalty : e.rowPenalty = g.rattr.extractLsb' 3 3
  writeProtect : e.writeProtect = g.rattr.getLsbD 6
  readyEnable : e.readyEnable = g.rattr.getLsbD 7
  wf : e.wf = true

/-- A frame number that fits twelve bits keeps its value in an entry. -/
theorem toNat_frame {f : BitVec 16} (h : f.toNat ≤ 0xFFF) : (f.setWidth 12).toNat = f.toNat :=
  (BitVec.toNat_setWidth ..).trans (Nat.mod_eq_of_lt (by omega))

theorem eq_setWidth_of_toNat_eq {f : BitVec 16} {g : BitVec 12} (h : g.toNat = f.toNat) : g = f.setWidth 12 :=
  BitVec.eq_of_toNat_eq (by rw [toNat_frame (by omega), h])

theorem RegionStaging.entry_eq_some_iff {g : RegionStaging} {e : RegionEntry} : g.entry = some e ↔ g.Spells e := by
  constructor
  · intro h
    unfold RegionStaging.entry at h
    split at h
    next kind size hkind hsize =>
      obtain ⟨⟨hstart, hend, hwf⟩, he⟩ := Option.ite_none_right_eq_some.mp h
      cases he
      exact ⟨toNat_frame hstart, toNat_frame hend, rfl, regionKindOf_eq_some_iff.mp hkind,
        rowSizeOf_eq_some_iff.mp hsize, rfl, rfl, rfl, rfl, hwf⟩
    next => cases h
  · rintro ⟨hstart, hend, henable, hkind, hsize, hwait, hpenalty, hprotect, hready, hwf⟩
    have hstartFits : g.rstart.toNat ≤ 0xFFF := by omega
    have hendFits : g.rend.toNat ≤ 0xFFF := by omega
    simp only [RegionStaging.entry, ← hkind, ← hsize, regionKindOf_code, rowSizeOf_code, ← henable, ← hwait,
      ← hpenalty, ← hprotect, ← hready, ← eq_setWidth_of_toNat_eq hstart, ← eq_setWidth_of_toNat_eq hend]
    exact if_pos ⟨hstartFits, hendFits, hwf⟩

/-- What RLOAD asks of a staged record (R24, second check). -/
structure RegionStaging.Checks (g : RegionStaging) : Prop where
  ordered : g.rstart.toNat ≤ g.rend.toNat
  fits : g.rend.toNat ≤ 0xFFF
  kind : (g.rkind.extractLsb' 1 2).toNat ≤ 1
  rowSize : (g.rkind.extractLsb' 3 3).toNat ≤ 3
  rowPenalty : (g.rkind.extractLsb' 1 2).toNat = 1 →
    1 ≤ (g.rattr.extractLsb' 3 3).toNat ∧ (g.rattr.extractLsb' 3 3).toNat ≤ 4

theorem RegionKind.code_eq_one_iff {k : RegionKind} : k.code.toNat = 1 ↔ k = .dynamic := by
  cases k <;> decide

theorem RegionStaging.Spells.checks {g : RegionStaging} {e : RegionEntry} (h : g.Spells e) : g.Checks := by
  obtain ⟨hordered, hpenalty⟩ := RegionEntry.wf_iff.mp h.wf
  have hstart := h.start
  have hend := h.stop
  refine ⟨by omega, by omega, ?_, ?_, fun hdynamic => ?_⟩
  · exact regionKindOf_isSome_iff.mp (by rw [← h.kind, regionKindOf_code, Option.isSome_some])
  · exact rowSizeOf_isSome_iff.mp (by rw [← h.rowSize, rowSizeOf_code, Option.isSome_some])
  · rw [← h.kind, RegionKind.code_eq_one_iff] at hdynamic
    exact h.rowPenalty ▸ hpenalty hdynamic

theorem RegionStaging.Checks.spells {g : RegionStaging} (h : g.Checks) : ∃ e, g.Spells e := by
  obtain ⟨kind, hkind⟩ := Option.isSome_iff_exists.mp (regionKindOf_isSome_iff.mpr h.kind)
  obtain ⟨size, hsize⟩ := Option.isSome_iff_exists.mp (rowSizeOf_isSome_iff.mpr h.rowSize)
  rw [regionKindOf_eq_some_iff] at hkind
  rw [rowSizeOf_eq_some_iff] at hsize
  have hstart := toNat_frame (h.ordered.trans h.fits)
  have hend := toNat_frame h.fits
  refine ⟨{ enable := g.rkind.getLsbD 0, startFrame := g.rstart.setWidth 12, endFrame := g.rend.setWidth 12,
            kind := kind, wait := g.rattr.extractLsb' 0 3, writeProtect := g.rattr.getLsbD 6,
            readyEnable := g.rattr.getLsbD 7, rowSize := size, rowPenalty := g.rattr.extractLsb' 3 3 },
    hstart, hend, rfl, hkind, hsize, rfl, rfl, rfl, rfl, RegionEntry.wf_iff.mpr ⟨?_, fun hdynamic => ?_⟩⟩
  · exact hstart ▸ hend ▸ h.ordered
  · exact h.rowPenalty (hkind ▸ RegionKind.code_eq_one_iff.mpr hdynamic)

theorem RegionStaging.entry_ne_none_iff {g : RegionStaging} : g.entry ≠ none ↔ g.Checks := by
  simp only [Option.ne_none_iff_exists', RegionStaging.entry_eq_some_iff]
  exact ⟨fun ⟨_, h⟩ => h.checks, fun h => h.spells⟩

theorem RegionEntry.staging_rstart_toNat (e : RegionEntry) : e.staging.rstart.toNat = e.startFrame.toNat :=
  (BitVec.toNat_setWidth ..).trans (Nat.mod_eq_of_lt (by omega))

theorem RegionEntry.staging_rend_toNat (e : RegionEntry) : e.staging.rend.toNat = e.endFrame.toNat :=
  (BitVec.toNat_setWidth ..).trans (Nat.mod_eq_of_lt (by omega))

/-- RKIND holds the row size code, the kind code and enable, from the top (11.8). -/
theorem rkind_fields : ∀ (size : BitVec 3) (kind : BitVec 2) (enable : Bool),
    (size ++ kind ++ BitVec.ofBool enable).getLsbD 0 = enable ∧
    (size ++ kind ++ BitVec.ofBool enable).extractLsb' 1 2 = kind ∧
    (size ++ kind ++ BitVec.ofBool enable).extractLsb' 3 3 = size := by decide

/-- RATTR holds ready enable, write protect, the row penalty and the wait, from the top (11.8). -/
theorem rattr_fields : ∀ (ready protect : Bool) (penalty wait : BitVec 3),
    (BitVec.ofBool ready ++ BitVec.ofBool protect ++ penalty ++ wait).extractLsb' 0 3 = wait ∧
    (BitVec.ofBool ready ++ BitVec.ofBool protect ++ penalty ++ wait).extractLsb' 3 3 = penalty ∧
    (BitVec.ofBool ready ++ BitVec.ofBool protect ++ penalty ++ wait).getLsbD 6 = protect ∧
    (BitVec.ofBool ready ++ BitVec.ofBool protect ++ penalty ++ wait).getLsbD 7 = ready := by decide

/-- The record RREAD writes for a well-formed entry spells that entry (R30). -/
theorem RegionEntry.staging_spells {e : RegionEntry} (h : e.wf = true) : e.staging.Spells e := by
  obtain ⟨henable, hkind, hsize⟩ := rkind_fields e.rowSize.code e.kind.code e.enable
  obtain ⟨hwait, hpenalty, hprotect, hready⟩ := rattr_fields e.readyEnable e.writeProtect e.rowPenalty e.wait
  exact ⟨e.staging_rstart_toNat.symm, e.staging_rend_toNat.symm, henable.symm, hkind.symm, hsize.symm, hwait.symm,
    hpenalty.symm, hprotect.symm, hready.symm, h⟩

theorem RegionEntry.entry_staging {e : RegionEntry} (h : e.wf = true) : e.staging.entry = some e :=
  RegionStaging.entry_eq_some_iff.mpr (RegionEntry.staging_spells h)

end Sys2Proof.Machine
end

section
/-! RLOAD on a quiet bus (chapter 2): the refusals, the entry written, the open row marked stale and the refresh work,
and what the check of the units that wait at the arbiter leaves unchanged. -/
namespace Sys2Proof.Machine

/-! ### The checks of RLOAD (R24, R25) -/

theorem overlaps_iff {t : Quad RegionEntry} {n : Fin 4} {e : RegionEntry} :
    overlaps t n e = true ↔
      e.enable = true ∧ ∃ m, m ≠ n ∧ (t.get m).enable = true ∧ e.shares (t.get m) = true := by
  simp [overlaps, mem_allFour, and_assoc]

/-- A record that shares no frame with another enabled region passes the OVERLAP check (R25). -/
theorem overlaps_false_of_apart {t : Quad RegionEntry} {n : Fin 4} {e : RegionEntry}
    (h : e.enable = true → ∀ m, m ≠ n → (t.get m).enable = true → e.shares (t.get m) = false) :
    overlaps t n e = false := by
  rw [← Bool.not_eq_true, overlaps_iff]
  rintro ⟨he, m, hm, hen, hshare⟩
  rw [h he m hm hen] at hshare
  cases hshare

theorem State.rload_badIndex {s : State} {data : Byte} (h : 4 ≤ data.toNat) :
    s.rload data = s.setResult .badIndex := by
  rw [State.rload, index4_none h]

theorem State.rload_badRecord {s : State} {data : Byte} {r : Fin 4} (hr : data.toNat = r.val)
    (h : s.rgd.staging.entry = none) : s.rload data = s.setResult .badRecord := by
  simp only [State.rload, index4_of_val hr, h]

theorem State.rload_overlap {s : State} {data : Byte} {r : Fin 4} {e : RegionEntry} (hr : data.toNat = r.val)
    (he : s.rgd.staging.entry = some e) (h : overlaps s.rgd.regions r e = true) :
    s.rload data = s.setResult .overlap := by
  simp only [State.rload, index4_of_val hr, he, h, if_true]

theorem State.rload_taken {s : State} {data : Byte} {r : Fin 4} {e : RegionEntry} (hr : data.toNat = r.val)
    (he : s.rgd.staging.entry = some e) (h : overlaps s.rgd.regions r e = false) :
    s.rload data = (s.loadRegion r e).setResult .ok := by
  simp [State.rload, index4_of_val hr, he, h]

theorem exec_rload_quiet {s : State} (hs : s.busQuiet) (data : Byte) :
    exec (.rload data) s = .next (s.released.rload data) :=
  congrArg Host.Outcome.next (State.windowCycle_quiet hs _)

theorem exec_rread_quiet {s : State} (hs : s.busQuiet) (data : Byte) :
    exec (.rread data) s = .next (s.released.rread data) :=
  congrArg Host.Outcome.next (State.windowCycle_quiet hs _)

/-- Settles O19, check by check in the order of RLOAD. -/
theorem regionLoadRefusals : Obligations.RegionLoadRefusals := by
  intro data s hs
  rw [exec_rload_quiet hs]
  refine ⟨fun hbad => by rw [State.rload_badIndex hbad], fun hidx hbad => ?_,
    fun r q e hr he hen hq hqen hlow hhigh => ?_⟩
  · have hrefused : s.rgd.staging.entry = none := by
      by_contra hentry
      obtain ⟨hordered, hfits, hkind, hsize, hpenalty⟩ := RegionStaging.entry_ne_none_iff.mp hentry
      omega
    rw [State.rload_badRecord (r := ⟨data.toNat, hidx⟩) rfl (by exact hrefused)]
  · have hover : overlaps s.rgd.regions r e = true :=
      overlaps_iff.mpr ⟨hen, q, hq, hqen, RegionEntry.shares_iff.mpr ⟨hlow, hhigh⟩⟩
    rw [State.rload_overlap hr (by exact he) (by exact hover)]

/-! ### What a taken RLOAD writes (R26, R28, R29) -/

/-- MSEQ after a load of region `r`: where the region was DYNAMIC, enabled and changed, its accesses in progress and
its open row carry the stale mark (R28, R66). -/
def Mseq.marked (m : Mseq) (r : Fin 4) (old new : RegionEntry) : Mseq :=
  { m with
    op := m.op.map (fun o => { o with work := o.work.mapAccess (fun a =>
      if (old.isDynamic = true ∧ new ≠ old) ∧ a.region = r then { a with staleMark := true } else a) })
    record := m.record.map (fun row =>
      if (old.isDynamic = true ∧ new ≠ old) ∧ row.region = r ∧ row.stale = none then
        { row with stale := some old.rowPenalty.toNat }
      else row) }

theorem State.markStale_eq (s : State) (r : Fin 4) (old new : RegionEntry) :
    s.markStale r old new = { s with mseq := s.mseq.marked r old new } := by
  unfold State.markStale Mseq.marked
  split
  next h =>
    simp only [eq_true h, true_and]
    rfl
  next h => simp [h]

/-- The RPC after a load, from whether an enabled DYNAMIC region stood before it and stands after it (R29). -/
def Rpc.reloaded (p : Rpc) (before after : Bool) : Rpc :=
  if before = true ∧ after = false then { p with debt := 0, timer := none }
  else if before = false ∧ after = true then { p with timer := timerStart p true }
  else p

theorem State.reloadRefresh_eq (s : State) (before after : Bool) :
    s.reloadRefresh before after = { s with rpc := s.rpc.reloaded before after } := by
  unfold State.reloadRefresh Rpc.reloaded
  repeat' split
  all_goals rfl

/-- The conditions of R77 and the interval of R76, with an enabled DYNAMIC region given. -/
theorem timerStart_true (p : Rpc) :
    timerStart p true =
      if p.rfint ≠ 0 ∧ (p.portState = .running ∨ p.portState = .draining ∧ p.parkStep = false) then
        some (max 16 p.rfint.toNat)
      else none := by
  have hgate : p.timerGate = true ↔ p.portState = .running ∨ p.portState = .draining ∧ p.parkStep = false := by
    simp [Rpc.timerGate]
  have hzero : p.rfint.toNat = 0 ↔ p.rfint = 0 := BitVec.toNat_eq (y := 0#12).symm
  simp only [timerStart, intervalOf, Bool.true_and, hgate, hzero]
  by_cases hint : p.rfint = 0#12
  · simp [hint]
  · simp [hint]

/-- The state a taken RLOAD checks the waiting units in (R26, R28, R29). -/
def State.replaceRegion (s : State) (r : Fin 4) (e : RegionEntry) : State :=
  { s with
    rgd := { s.rgd with regions := s.rgd.regions.set r e }
    mseq := s.mseq.marked r (s.rgd.regions.get r) e
    rpc := s.rpc.reloaded (anyDynamic s.rgd.regions) (anyDynamic (s.rgd.regions.set r e)) }

theorem State.loadRegion_eq (s : State) (r : Fin 4) (e : RegionEntry) :
    s.loadRegion r e = (s.replaceRegion r e).recheckClaims := by
  simp only [State.loadRegion, State.markStale_eq, State.reloadRefresh_eq, State.replaceRegion]

/-! ### What the check of the waiting units leaves unchanged (R27) -/

/-- The check of a waiting unit touches the channels and the Fault Log alone. -/
theorem State.recheckClaim_eq (s : State) (n : Fin 4) :
    s.recheckClaim n =
      { s with txe := { s.txe with chans := (s.recheckClaim n).txe.chans }, flog := (s.recheckClaim n).flog } := by
  cases h : s.waitingReport s.rgd.regions n with
  | none => rw [State.recheckClaim_none h]
  | some rep =>
    rw [State.recheckClaim_some h, s.fileFault_flog rep]
    rfl

theorem State.foldl_recheckClaim_eq (l : List (Fin 4)) (s : State) :
    l.foldl State.recheckClaim s =
      { s with txe := { s.txe with chans := (l.foldl State.recheckClaim s).txe.chans },
               flog := (l.foldl State.recheckClaim s).flog } := by
  induction l generalizing s with
  | nil => rfl
  | cons n l ih =>
    rw [List.foldl_cons, ih, s.recheckClaim_eq n]

/-- The failing units are checked one after another, in an order that is left open (R143; log 6). -/
theorem State.recheckClaims_eq_foldl (s : State) :
    ∃ (k : Nat) (l : List (Fin 4)), l.Perm (allFour.filter (fun n => s.claimFails n)) ∧
      s.recheckClaims = l.foldl State.recheckClaim { s with freeCount := k } := by
  unfold State.recheckClaims
  dsimp only
  split
  · exact ⟨s.freeCount, _, .refl _, rfl⟩
  · exact ⟨s.freeCount + 1, _, orderBy_perm _ _, rfl⟩

theorem State.recheckClaims_eq (s : State) :
    s.recheckClaims =
      { s with txe := { s.txe with chans := s.recheckClaims.txe.chans }, flog := s.recheckClaims.flog,
               freeCount := s.recheckClaims.freeCount } := by
  obtain ⟨k, l, -, h⟩ := s.recheckClaims_eq_foldl
  rw [h, State.foldl_recheckClaim_eq]

/-- Beyond the region replaced, a taken RLOAD touches the channels, the Fault Log and the model's own counter alone. -/
theorem State.loadRegion_frame (s : State) (r : Fin 4) (e : RegionEntry) :
    s.loadRegion r e =
      { s.replaceRegion r e with txe := { s.txe with chans := (s.loadRegion r e).txe.chans },
                                 flog := (s.loadRegion r e).flog, freeCount := (s.loadRegion r e).freeCount } := by
  rw [State.loadRegion_eq, State.recheckClaims_eq]
  rfl

theorem exec_rload_taken {s : State} (hs : s.busQuiet) {data : Byte} {r : Fin 4} {e : RegionEntry}
    (hr : data.toNat = r.val) (he : s.rgd.staging.entry = some e)
    (hapart : e.enable = true → ∀ q, q ≠ r → (s.rgd.regions.get q).enable = true →
      e.shares (s.rgd.regions.get q) = false) :
    exec (.rload data) s = .next ((s.released.loadRegion r e).setResult .ok) := by
  rw [exec_rload_quiet hs, State.rload_taken hr (by exact he) (overlaps_false_of_apart (by exact hapart))]

theorem RegionKind.code_mem (k : RegionKind) :
    (k.code.toNat, k) ∈ [(0, RegionKind.static), (1, .dynamic)] := by
  cases k <;> decide

theorem RowSize.code_mem (z : RowSize) :
    (z.code.toNat, z) ∈ [(0, RowSize.b512), (1, .b1024), (2, .b2048), (3, .b4096)] := by
  cases z <;> decide

theorem Work.mapAccess_of_access_none {f : Access → Access} {w : Work} (h : w.access = none) :
    w.mapAccess f = w := by
  cases w with
  | processor | unitRead | unitWrite => cases h
  | refresh | enter | parkClose | wakeUp | timeoutClose => rfl

/-- Settles O20: the state of `State.replaceRegion`, whatever the check of the waiting units adds to it, and the layout
of the staging record by `RegionStaging.entry_eq_some_iff`. -/
theorem regionLoadTaken : Obligations.RegionLoadTaken := by
  refine ⟨fun data s r e hs hr he hapart => ?_, fun a b => RegionEntry.shares_iff,
    fun f a a' b n => ⟨rfl, rfl, rfl, fun w => Work.mapAccess_of_access_none⟩, fun g => ⟨fun e he => ?_,
    fun hordered hfits hkind hsize hpenalty =>
      RegionStaging.entry_ne_none_iff.mpr ⟨hordered, hfits, hkind, hsize, hpenalty⟩⟩⟩
  · refine ⟨_, exec_rload_taken hs hr he hapart, ?_⟩
    rw [State.loadRegion_frame]
    refine ⟨rfl, rfl, rfl, rfl, rfl, rfl, rfl, rfl, rfl, rfl, rfl, rfl, rfl, ?_⟩
    rw [← timerStart_true]
    rfl
  · have h := RegionStaging.entry_eq_some_iff.mp he
    refine ⟨h.start, h.stop, h.enable, h.kind ▸ e.kind.code_mem, h.rowSize ▸ e.rowSize.code_mem, ?_,
      congrArg BitVec.toNat h.rowPenalty, h.writeProtect, h.readyEnable⟩
    rw [h.wait]
    simp

end Sys2Proof.Machine
end

section
/-! What a taken RLOAD does to the units that wait at the arbiter (R27), and the reload of an entry that RREAD has
read (R30). -/
namespace Sys2Proof.Machine

/-! ### The reports of a taken RLOAD (R27, R109, R143) -/

/-- FLOG after reports handed over one after another: the first ones while it has room, the overflow flag for the rest
(R143). -/
def Flog.takeAll (f : Flog) (reports : List FaultRecord) : Flog :=
  { records := f.records ++ reports.take (4 - f.records.length)
    overflow := f.overflow || decide (4 - f.records.length < reports.length) }

@[simp] theorem Flog.takeAll_nil (f : Flog) : f.takeAll [] = f := by
  simp [Flog.takeAll]

theorem Flog.takeAll_append (f : Flog) (a b : List FaultRecord) :
    f.takeAll (a ++ b) = (f.takeAll a).takeAll b := by
  have hroom : 4 - (f.records.length + min (4 - f.records.length) a.length) =
      4 - f.records.length - a.length := by omega
  have hover : (4 - f.records.length < a.length + b.length) ↔
      4 - f.records.length < a.length ∨ 4 - f.records.length - a.length < b.length := by omega
  simp [Flog.takeAll, List.take_append, hroom, hover, Bool.or_assoc]

theorem State.flog_fileFault (s : State) (rep : FaultRecord) : (s.fileFault rep).flog = s.flog.takeAll [rep] := by
  rcases s.fileFault_cases rep with ⟨h, hroom⟩ | ⟨h, hfull⟩
  · have htake : [rep].take (4 - s.flog.records.length) = [rep] :=
      List.take_of_length_le (by simp only [List.length_singleton]; omega)
    simp [h, Flog.takeAll, htake]
    omega
  · have hnone : 4 - s.flog.records.length = 0 := by omega
    simp [h, Flog.takeAll, hnone]

/-- The report of the waiting unit of channel n against the region table of the state. -/
def State.report (s : State) (n : Fin 4) : Option FaultRecord := s.waitingReport s.rgd.regions n

theorem State.recheckClaim_flog (s : State) (n : Fin 4) :
    (s.recheckClaim n).flog = s.flog.takeAll (s.report n).toList := by
  cases h : s.report n with
  | none => simp [State.recheckClaim_none h]
  | some rep => simp [State.recheckClaim_some h, State.flog_fileFault]

theorem State.chan_recheckClaim_same (s : State) (n : Fin 4) :
    (s.recheckClaim n).chan n =
      if (s.report n).isSome then { (s.chan n).release with state := .faulted } else s.chan n := by
  cases h : s.report n with
  | none => simp [State.recheckClaim_none h]
  | some rep => simp [State.recheckClaim_some h]

theorem State.chan_recheckClaim_ne (s : State) {n m : Fin 4} (hne : m ≠ n) :
    (s.recheckClaim n).chan m = s.chan m := by
  cases h : s.report n with
  | none => rw [State.recheckClaim_none h]
  | some rep => rw [State.recheckClaim_some h, State.chan_setChan_ne _ _ hne, State.chan_fileFault]

/-- A report depends on the channel and the region table alone. -/
theorem State.report_congr {s t : State} {n : Fin 4} (hchan : t.chan n = s.chan n) (hrgd : t.rgd = s.rgd) :
    t.report n = s.report n := by
  simp only [State.report, State.waitingReport, hchan, hrgd]

theorem State.report_recheckClaim_ne (s : State) {n m : Fin 4} (hne : m ≠ n) :
    (s.recheckClaim n).report m = s.report m :=
  State.report_congr (s.chan_recheckClaim_ne hne) (s.recheckClaim_decoders n).2

theorem State.chan_foldl_recheckClaim_of_notMem {l : List (Fin 4)} {n : Fin 4} (h : n ∉ l) (s : State) :
    (l.foldl State.recheckClaim s).chan n = s.chan n := by
  induction l generalizing s with
  | nil => rfl
  | cons m l ih =>
    obtain ⟨hne, hmem⟩ := not_or.mp (mt List.mem_cons.mpr h)
    rw [List.foldl_cons, ih hmem, s.chan_recheckClaim_ne hne]

theorem State.chan_foldl_recheckClaim_of_mem {l : List (Fin 4)} {n : Fin 4} (hl : l.Nodup) (h : n ∈ l) (s : State) :
    (l.foldl State.recheckClaim s).chan n = (s.recheckClaim n).chan n := by
  induction l generalizing s with
  | nil => cases h
  | cons m l ih =>
    obtain ⟨hm, hl⟩ := List.nodup_cons.mp hl
    rw [List.foldl_cons]
    rcases List.mem_cons.mp h with rfl | hmem
    · exact State.chan_foldl_recheckClaim_of_notMem hm _
    · have hne : n ≠ m := fun heq => hm (heq ▸ hmem)
      rw [ih hl hmem, State.chan_recheckClaim_same, State.chan_recheckClaim_same, s.report_recheckClaim_ne hne,
        s.chan_recheckClaim_ne hne]

/-- Different channels are checked independently, so that each files the report it had before the first check. -/
theorem State.foldl_recheckClaim_flog {l : List (Fin 4)} (hl : l.Nodup) (s : State) :
    (l.foldl State.recheckClaim s).flog = s.flog.takeAll (l.filterMap s.report) := by
  induction l generalizing s with
  | nil => simp
  | cons n l ih =>
    obtain ⟨hn, hl⟩ := List.nodup_cons.mp hl
    have hrest : l.filterMap (s.recheckClaim n).report = l.filterMap s.report :=
      List.filterMap_congr fun m hm => s.report_recheckClaim_ne fun heq => hn (heq ▸ hm)
    have hcons : (n :: l).filterMap s.report = (s.report n).toList ++ l.filterMap s.report := by
      cases h : s.report n <;> simp [h]
    rw [List.foldl_cons, ih hl, hrest, s.recheckClaim_flog, hcons, Flog.takeAll_append]

theorem State.mem_failing_iff {s : State} {n : Fin 4} :
    n ∈ allFour.filter (fun m => s.claimFails m) ↔ (s.report n).isSome = true := by
  rw [List.mem_filter, State.claimFails_eq]
  exact and_iff_right (mem_allFour n)

theorem State.filterMap_failing (s : State) :
    (allFour.filter (fun n => s.claimFails n)).filterMap s.report = allFour.filterMap s.report := by
  rw [List.filterMap_filter]
  refine List.filterMap_congr fun n _ => ?_
  rw [State.claimFails_eq, ← State.report]
  cases s.report n <;> rfl

theorem State.chan_recheckClaims (s : State) (n : Fin 4) :
    s.recheckClaims.chan n =
      if (s.report n).isSome then { (s.chan n).release with state := .faulted } else s.chan n := by
  obtain ⟨k, l, hperm, h⟩ := s.recheckClaims_eq_foldl
  have hnodup : l.Nodup := hperm.nodup_iff.mpr (List.Nodup.filter _ (by decide))
  have hmem : n ∈ l ↔ (s.report n).isSome = true := hperm.mem_iff.trans State.mem_failing_iff
  rw [h]
  by_cases hn : n ∈ l
  · rw [State.chan_foldl_recheckClaim_of_mem hnodup hn, State.chan_recheckClaim_same]
    rfl
  · rw [State.chan_foldl_recheckClaim_of_notMem hn, if_neg (mt hmem.mpr hn)]
    rfl

theorem State.recheckClaims_flog (s : State) :
    ∃ filed : List FaultRecord, filed.Perm (allFour.filterMap s.report) ∧
      s.recheckClaims.flog = s.flog.takeAll filed := by
  obtain ⟨k, l, hperm, h⟩ := s.recheckClaims_eq_foldl
  have hnodup : l.Nodup := hperm.nodup_iff.mpr (List.Nodup.filter _ (by decide))
  refine ⟨l.filterMap s.report, s.filterMap_failing ▸ hperm.filterMap s.report, ?_⟩
  rw [h, State.foldl_recheckClaim_flog hnodup]
  rfl

theorem State.report_replaceRegion (s : State) (r : Fin 4) (e : RegionEntry) :
    (s.replaceRegion r e).report = s.waitingReport (s.rgd.regions.set r e) := by rfl

/-- Settles O21: the waiting units are checked in the state with the region replaced, each independently of the
others. -/
theorem regionLoadRechecksWaitingUnits : Obligations.RegionLoadRechecksWaitingUnits := by
  intro data s r e hs hr he hapart report
  have hreport : (s.released.replaceRegion r e).report = report := State.report_replaceRegion _ r e
  have hchan (n : Fin 4) : (s.released.loadRegion r e).chan n =
      if (report n).isSome then { (s.chan n).release with state := .faulted } else s.chan n := by
    rw [State.loadRegion_eq, State.chan_recheckClaims, hreport]
    rfl
  obtain ⟨filed, hperm, hflog⟩ := (s.released.replaceRegion r e).recheckClaims_flog
  rw [hreport] at hperm
  rw [← State.loadRegion_eq] at hflog
  refine ⟨_, exec_rload_taken hs hr he hapart, fun n hn => ?_, fun n hn => ?_, ?_, ?_, filed, hperm, ?_, ?_⟩
  · rw [State.chan_setResult, hchan, if_pos (Option.isSome_iff_ne_none.mpr hn)]
  · rw [State.chan_setResult, hchan, hn]
    rfl
  · rw [State.loadRegion_frame]
    rfl
  · rw [State.loadRegion_frame]
    rfl
  · rw [State.setResult_flog, hflog]
    rfl
  · rw [State.setResult_flog, hflog]
    rfl

/-! ### RREAD and the reload (R30) -/

theorem State.rread_badIndex {s : State} {data : Byte} (h : 4 ≤ data.toNat) :
    s.rread data = s.setResult .badIndex := by
  rw [State.rread, index4_none h]

theorem State.rread_index {s : State} {data : Byte} {r : Fin 4} (hr : data.toNat = r.val) :
    s.rread data =
      ({ s with rgd := { s.rgd with staging := (s.rgd.regions.get r).staging } } : State).setResult .ok := by
  rw [State.rread, index4_of_val hr]

theorem State.recheckClaims_of_passing {s : State} (h : ∀ n, s.claimFails n = false) : s.recheckClaims = s := by
  simp [State.recheckClaims, h]

/-- A load of the entry that stands in the table changes nothing, with the waiting units in order. -/
theorem State.loadRegion_same {s : State} (h : ∀ n, s.claimFails n = false) (r : Fin 4) :
    s.loadRegion r (s.rgd.regions.get r) = s := by
  have hmark : s.mseq.marked r (s.rgd.regions.get r) (s.rgd.regions.get r) = s.mseq := by simp [Mseq.marked]
  have hreload (b : Bool) : s.rpc.reloaded b b = s.rpc := by cases b <;> rfl
  have hreplace : s.replaceRegion r (s.rgd.regions.get r) = s := by
    simp only [State.replaceRegion, Quad.set_get, hmark, hreload]
  rw [State.loadRegion_eq, hreplace, State.recheckClaims_of_passing h]

/-- With an entry in the staging record and its index named, RLOAD writes over the entry what stands there (R30). -/
theorem State.rload_of_read_back {s : State} {data : Byte} {r : Fin 4} (hr : data.toNat = r.val) (hs : s.TablesOk)
    (hst : s.rgd.staging = (s.rgd.regions.get r).staging) (h : ∀ n, s.claimFails n = false) :
    s.rload data = s.setResult .ok := by
  obtain ⟨_, hwf, hapart⟩ := hs
  have hentry : s.rgd.staging.entry = some (s.rgd.regions.get r) := hst ▸ RegionEntry.entry_staging (hwf r)
  have hover : overlaps s.rgd.regions r (s.rgd.regions.get r) = false :=
    overlaps_false_of_apart fun hen q hq hqen => hapart r q hq.symm hen hqen
  rw [State.rload_taken hr hentry hover, State.loadRegion_same h]

/-- Settles O22: the staging record RREAD leaves spells the entry it was read from, so that an RLOAD stores that entry
again, with RESULT at OK already and D0 to D7 released already. -/
theorem regionReadBackReloads : Obligations.RegionReadBackReloads := by
  intro data s hs
  rw [exec_rread_quiet hs]
  refine ⟨fun hbad => by rw [State.rread_badIndex hbad], fun r hr htables => ?_⟩
  have ⟨_, hwf, _⟩ := htables
  rw [State.rread_index hr]
  refine ⟨(s.rgd.regions.get r).staging, rfl, RegionEntry.staging_rstart_toNat _, RegionEntry.staging_rend_toNat _,
    RegionEntry.entry_staging (hwf r), ?_⟩
  rintro hpass t ⟨⟩
  rw [exec_rload_quiet (by exact hs), State.rload_of_read_back hr (by exact htables) rfl (by exact hpass)]
  rfl

end Sys2Proof.Machine
end

section
/-! The processor's cycles (chapter 3): what a cycle does on a bus that is not quiet, a memory cycle on a quiet bus, a
held cycle served, and the end of an access and of a cycle. -/
namespace Sys2Proof.Machine

/-! ### Cycles on a bus that is not quiet (R43) -/

/-- The commands that are register window cycles are each one call of the register window. -/
theorem exec_of_isWindowCycle {c : Instr} (h : isWindowCycle c = true) :
    ∃ serve : State → State, ∀ s, exec c s = .next (s.windowCycle serve) := by
  cases hw : c.windowWrite with
  | some w => exact ⟨fun t => t.writeAt w.1 w.2, exec_of_windowWrite hw⟩
  | none =>
    cases c with
    | chstatRead off => exact ⟨fun t => t.readAt off, fun s => rfl⟩
    | _ => simp [isWindowCycle, hw] at h

theorem State.beginMemoryCycle_busy {s : State} (hh : s.pbi.held = none)
    (hp : s.pbi.phase = .waiting ∨ s.pbi.phase = .access) (pins : BusPins) :
    s.beginMemoryCycle pins =
      { s with pbi := { s.pbi with memc := true, held := some .memory, readOut := none } } := by
  rcases hp with hp | hp <;>
    cases hm : s.pbi.memc <;>
    simp [State.beginMemoryCycle, State.newCycle, State.released, State.endCycle, hp, hm, hh]

theorem State.beginMemoryCycle_held {s : State} (hh : s.pbi.held ≠ none) (pins : BusPins) :
    s.beginMemoryCycle pins = s := by
  simp [State.beginMemoryCycle, Option.isSome_iff_ne_none.mpr hh]

theorem State.beginMemoryCycle_ends {s : State} (hh : s.pbi.held = none)
    (hp : s.pbi.phase = .passive ∨ s.pbi.phase = .ending) (hm : s.pbi.memc = true) (pins : BusPins) :
    s.beginMemoryCycle pins =
      State.beginMemoryCycle { s with pbi := { s.pbi with phase := .idle, cycle := none, memc := false } } pins := by
  rcases hp with hp | hp <;>
    simp [State.beginMemoryCycle, State.newCycle, State.released, State.endCycle, hp, hm, hh]

theorem isWindowCycle_memoryCycle (pins : BusPins) : isWindowCycle (.memoryCycle pins) = false := by rfl

/-- Settles O10: for a register window cycle by the lemmas of the register window, for a memory cycle by those of its
beginning. -/
theorem cyclesOnABusyBus : Obligations.CyclesOnABusyBus := by
  intro c s hc
  rcases hc with hwin | ⟨pins, rfl⟩
  · obtain ⟨serve, hserve⟩ := exec_of_isWindowCycle hwin
    simp only [hserve, hwin, Bool.not_true, if_true]
    exact ⟨fun hh hp => by rw [State.windowCycle_busy hh hp],
      fun hh => by rw [State.windowCycle_held hh],
      fun hh hp hm => by rw [State.windowCycle_ends hh hp hm]⟩
  · simp only [isWindowCycle_memoryCycle, Bool.not_false, Bool.false_eq_true, if_false]
    exact ⟨fun hh hp => congrArg Host.Outcome.next (State.beginMemoryCycle_busy hh hp pins),
      fun hh => congrArg Host.Outcome.next (State.beginMemoryCycle_held hh pins),
      fun hh hp hm => congrArg Host.Outcome.next (State.beginMemoryCycle_ends hh hp hm pins)⟩

/-! ### A memory cycle in IDLE (R32 to R37) -/

theorem exec_memoryCycle_idle {s : State} (hp : s.pbi.phase = .idle) (hh : s.pbi.held = none) (pins : BusPins) :
    exec (.memoryCycle pins) s =
      .next (State.lookUpCycle { s with pbi := { s.pbi with memc := true, readOut := none } } pins) := by
  refine congrArg Host.Outcome.next ?_
  cases hm : s.pbi.memc <;>
    simp [State.beginMemoryCycle, State.newCycle, State.released, State.endCycle, hp, hm, hh]

/-- With both or neither of RD and WR there is no lookup (R32). -/
theorem State.lookUpCycle_same {pins : BusPins} (h : pins.rd = pins.wr) (s : State) :
    s.lookUpCycle pins = s.standAside none := by
  obtain ⟨rd, wr, addr, data⟩ := pins
  cases rd <;> cases h <;> rfl

/-- RD alone is a READ, WR alone a WRITE (R32). -/
theorem State.lookUpCycle_one {pins : BusPins} (h : pins.rd ≠ pins.wr) (s : State) :
    s.lookUpCycle pins = s.checkCycle pins (if pins.rd then .read else .write) := by
  obtain ⟨rd, wr, addr, data⟩ := pins
  cases rd <;> cases wr
  · exact absurd rfl h
  · rfl
  · rfl
  · exact absurd rfl h

theorem regionVerdict_unmapped {t : Quad RegionEntry} {pa : PhysAddr} (h : regionOf t pa = none) (dir : Direction) :
    regionVerdict t pa dir = .unmapped := by
  simp only [regionVerdict, h]

theorem regionVerdict_protect {t : Quad RegionEntry} {pa : PhysAddr} {n : Fin 4} {dir : Direction}
    (h : regionOf t pa = some n) (hd : dir = .write) (hp : (t.get n).writeProtect = true) :
    regionVerdict t pa dir = .protect := by
  simp [regionVerdict, h, hd, hp]

theorem regionVerdict_region_iff {t : Quad RegionEntry} {pa : PhysAddr} {n : Fin 4} {dir : Direction} :
    regionVerdict t pa dir = .region n ↔
      regionOf t pa = some n ∧ (dir = .read ∨ (t.get n).writeProtect = false) := by
  unfold regionVerdict
  cases hr : regionOf t pa with
  | none => simp
  | some m =>
    cases dir with
    | read => simp
    | write =>
      cases hp : (t.get m).writeProtect
      · simpa [hp] using fun h : m = n => h ▸ hp
      · simpa [hp] using fun h : m = n => h ▸ hp

/-- A refused cycle whose MEMC is active is in ENDING at once (R35). -/
theorem State.faultCycle_active {s : State} (hm : s.pbi.memc = true) (hh : s.pbi.held = none) (c : CycleRecord)
    (kind : FaultKind) :
    s.faultCycle c kind =
      { s.fileFault { source := .processor, kind := kind, dir := c.dir.fault, logical := some c.logical,
                      physical := c.physical, tag := none } with
        pbi := { s.pbi with
          phase := .ending
          cycle := some { c with readData := if c.dir = .read then some 0xFF else c.readData } } } := by
  simp [State.faultCycle, State.releaseProcessor, hm, hh]

/-- A report is filed whatever the PBI holds. -/
theorem State.fileFault_withPbi (s : State) (p : Pbi) (r : FaultRecord) :
    State.fileFault { s with pbi := p } r = { s.fileFault r with pbi := p } := by
  unfold State.fileFault
  split <;> rfl

/-- The record of a cycle at its beginning (R31). -/
def freshCycle (pins : BusPins) (dir : Direction) : CycleRecord :=
  { dir := dir, logical := pins.addr, physical := none, region := none, writeData := none, readData := none }

/-- The record of a cycle that has passed its checks (R36). -/
def claimedCycle (pins : BusPins) (dir : Direction) (pa : PhysAddr) (n : Fin 4) : CycleRecord :=
  { freshCycle pins dir with
    physical := some pa, region := some n, writeData := if dir = .write then some pins.data else none }

section
variable (s : State) {pins : BusPins} {dir : Direction} {pa : PhysAddr}

theorem State.checkCycle_notClaimed (hv : windowVerdict s.wtu.windows pins.addr dir = .notClaimed) :
    s.checkCycle pins dir = s.standAside (some (freshCycle pins dir)) := by
  simp only [State.checkCycle, hv, freshCycle]

theorem State.checkCycle_rights (hv : windowVerdict s.wtu.windows pins.addr dir = .rights pa) :
    s.checkCycle pins dir = s.faultCycle { freshCycle pins dir with physical := some pa } .rights := by
  simp only [State.checkCycle, hv, freshCycle]

theorem State.checkCycle_unmapped (hv : windowVerdict s.wtu.windows pins.addr dir = .claimed pa)
    (hr : regionVerdict s.rgd.regions pa dir = .unmapped) :
    s.checkCycle pins dir = s.faultCycle { freshCycle pins dir with physical := some pa } .unmapped := by
  simp only [State.checkCycle, hv, hr, freshCycle]

theorem State.checkCycle_protect (hv : windowVerdict s.wtu.windows pins.addr dir = .claimed pa)
    (hr : regionVerdict s.rgd.regions pa dir = .protect) :
    s.checkCycle pins dir = s.faultCycle { freshCycle pins dir with physical := some pa } .protect := by
  simp only [State.checkCycle, hv, hr, freshCycle]

theorem State.checkCycle_claim {n : Fin 4} (hv : windowVerdict s.wtu.windows pins.addr dir = .claimed pa)
    (hr : regionVerdict s.rgd.regions pa dir = .region n) :
    s.checkCycle pins dir = s.raiseClaim (claimedCycle pins dir pa n) := by
  simp only [State.checkCycle, hv, hr, claimedCycle, freshCycle]

end

/-- Settles O23, verdict by verdict in the order of the checks. -/
theorem memoryCycleIsLookedUpAndChecked : Obligations.MemoryCycleIsLookedUpAndChecked := by
  intro pins s hs dir c on refused
  obtain ⟨hp, -, hh⟩ := hs
  rw [exec_memoryCycle_idle hp hh]
  let looking : State := { s with pbi := on }
  have hread : (if dir = .read then some (0xFF : Byte) else none) = if pins.rd then some 0xFF else none := by
    cases hrd : pins.rd <;> simp [dir, hrd]
  have hwrite : (if dir = .write then some pins.data else none) = if pins.rd then none else some pins.data := by
    cases hrd : pins.rd <;> simp [dir, hrd]
  have hrefused (kind : FaultKind) (pa : PhysAddr) :
      looking.faultCycle { c with physical := some pa } kind = refused kind pa := by
    have hactive := State.faultCycle_active (s := looking) rfl hh { c with physical := some pa } kind
    rw [hactive, State.fileFault_withPbi]
    simp only [refused, c, hread, looking]
  refine ⟨fun hsame => ?_, fun hone hv => ?_, fun pa hone hv => ?_, fun pa hone hv => ⟨fun hr => ?_, fun n hr =>
    ⟨fun hw hp => ?_, fun hok => ?_⟩⟩⟩
  · rw [State.lookUpCycle_same hsame]
    rfl
  all_goals rw [State.lookUpCycle_one hone]
  · exact congrArg _ (State.checkCycle_notClaimed looking hv)
  · exact congrArg _ ((State.checkCycle_rights looking hv).trans (hrefused .rights pa))
  · have hverdict := regionVerdict_unmapped hr dir
    exact congrArg _ ((State.checkCycle_unmapped looking hv hverdict).trans (hrefused .unmapped pa))
  · have hverdict := regionVerdict_protect hr hw hp
    exact congrArg _ ((State.checkCycle_protect looking hv hverdict).trans (hrefused .protect pa))
  · have hclaim := State.checkCycle_claim looking hv (regionVerdict_region_iff.mpr ⟨hr, hok⟩)
    have hrecord : claimedCycle pins dir pa n =
        { c with physical := some pa, region := some n,
                 writeData := if pins.rd then none else some pins.data } := by
      simp only [claimedCycle, freshCycle, hwrite, c]
    rw [hrecord] at hclaim
    exact ⟨fun hport => congrArg _ (hclaim.trans (if_neg hport)),
      fun hport => congrArg _ (hclaim.trans (if_pos hport))⟩

/-! ### A held cycle served (R43) -/

theorem exec_heldCycleServed_window {s : State} (hp : s.pbi.phase = .idle) (hh : s.pbi.held = some .window)
    (pins : BusPins) :
    exec (.heldCycleServed pins) s =
      .next (State.serveWindow { s with pbi := { s.pbi with held := none } } pins) := by
  simp [exec, execHeldCycleServed, hp, hh]

theorem exec_heldCycleServed_memory {s : State} (hp : s.pbi.phase = .idle) (hh : s.pbi.held = some .memory)
    (pins : BusPins) :
    exec (.heldCycleServed pins) s =
      .next (State.lookUpCycle { s with pbi := { s.pbi with held := none } } pins) := by
  simp [exec, execHeldCycleServed, hp, hh]

theorem exec_heldCycleServed_notDue {s : State} (h : s.pbi.phase ≠ .idle ∨ s.pbi.held = none) (pins : BusPins) :
    exec (.heldCycleServed pins) s = .next s := by
  by_cases hp : s.pbi.phase = .idle
  · simp [exec, execHeldCycleServed, hp, h.resolve_left (not_not.mpr hp)]
  · simp [exec, execHeldCycleServed, hp]

theorem State.serveWindow_same {pins : BusPins} (h : pins.rd = pins.wr) (s : State) : s.serveWindow pins = s := by
  obtain ⟨rd, wr, addr, data⟩ := pins
  cases rd <;> cases h <;> rfl

theorem State.serveWindow_read {pins : BusPins} (hr : pins.rd = true) (hw : pins.wr = false) (s : State) :
    s.serveWindow pins = s.readAt (pins.addr.setWidth 7) := by
  simp only [State.serveWindow, hr, hw]

theorem State.serveWindow_write {pins : BusPins} (hr : pins.rd = false) (hw : pins.wr = true) (s : State) :
    s.serveWindow pins = s.writeAt (pins.addr.setWidth 7) pins.data := by
  simp only [State.serveWindow, hr, hw]

theorem State.readAt_of_ne {off : Offset} (h : off ≠ 0x13) (s : State) :
    s.readAt off = { s with pbi := { s.pbi with readOut := some (s.readRegister off) } } :=
  if_neg h

/-- No register shows anything of the PBI. -/
theorem State.readRegister_withPbi (s : State) (p : Pbi) (off : Offset) :
    State.readRegister { s with pbi := p } off = s.readRegister off := by rfl

theorem State.released_of_readOut_none {s : State} (h : s.pbi.readOut = none) : s.released = s := by
  rw [State.released, ← h]

/-- What the lookup of a memory cycle comes to (R32 to R36): the PBI stands aside, or faults the cycle, or raises the
claim of a cycle whose region was found. -/
theorem State.lookUpCycle_cases (wtu : Wtu) (t : Quad RegionEntry) (pins : BusPins) :
    (∃ c, ∀ s : State, s.wtu = wtu → s.rgd.regions = t → s.lookUpCycle pins = s.standAside c) ∨
    (∃ c kind, ∀ s : State, s.wtu = wtu → s.rgd.regions = t → s.lookUpCycle pins = s.faultCycle c kind) ∨
    (∃ dir pa n, regionVerdict t pa dir = .region n ∧
      ∀ s : State, s.wtu = wtu → s.rgd.regions = t →
        s.lookUpCycle pins = s.raiseClaim (claimedCycle pins dir pa n)) := by
  by_cases hone : pins.rd = pins.wr
  · exact .inl ⟨none, fun s _ _ => State.lookUpCycle_same hone s⟩
  obtain ⟨dir, hdir⟩ : ∃ dir, ∀ s : State, s.lookUpCycle pins = s.checkCycle pins dir :=
    ⟨_, State.lookUpCycle_one hone⟩
  cases hv : windowVerdict wtu.windows pins.addr dir with
  | notClaimed =>
    refine .inl ⟨some (freshCycle pins dir), fun s hw _ => ?_⟩
    rw [hdir, State.checkCycle_notClaimed s (hw ▸ hv)]
  | rights pa =>
    refine .inr (.inl ⟨{ freshCycle pins dir with physical := some pa }, .rights, fun s hw _ => ?_⟩)
    rw [hdir, State.checkCycle_rights s (hw ▸ hv)]
  | claimed pa =>
    cases hr : regionVerdict t pa dir with
    | unmapped =>
      refine .inr (.inl ⟨{ freshCycle pins dir with physical := some pa }, .unmapped, fun s hw ht => ?_⟩)
      rw [hdir, State.checkCycle_unmapped s (hw ▸ hv) (ht ▸ hr)]
    | protect =>
      refine .inr (.inl ⟨{ freshCycle pins dir with physical := some pa }, .protect, fun s hw ht => ?_⟩)
      rw [hdir, State.checkCycle_protect s (hw ▸ hv) (ht ▸ hr)]
    | region n =>
      refine .inr (.inr ⟨dir, pa, n, hr, fun s hw ht => ?_⟩)
      rw [hdir, State.checkCycle_claim s (hw ▸ hv) (ht ▸ hr)]

theorem State.endCycle_of_phase {s : State}
    (h : s.pbi.phase = .passive ∨ s.pbi.phase = .waiting ∨ s.pbi.phase = .ending) :
    s.endCycle = { s with pbi :=
      if s.pbi.phase = .waiting then { s.pbi with memc := false }
      else { s.pbi with phase := .idle, cycle := none, memc := false } } := by
  rcases h with h | h | h <;> simp [State.endCycle, h]

section
variable {s : State} (hm : s.pbi.memc = true) (hh : s.pbi.held = none)
include hm hh

/-- The lookup of a cycle leaves it in PASSIVE, WAITING or ENDING while MEMC is active. -/
theorem State.lookUpCycle_phase (pins : BusPins) :
    (s.lookUpCycle pins).pbi.phase = .passive ∨ (s.lookUpCycle pins).pbi.phase = .waiting ∨
      (s.lookUpCycle pins).pbi.phase = .ending := by
  rcases State.lookUpCycle_cases s.wtu s.rgd.regions pins with ⟨c, h⟩ | ⟨c, kind, h⟩ | ⟨dir, pa, n, _, h⟩
  · rw [h s rfl rfl]
    simp [State.standAside, hm]
  · rw [h s rfl rfl]
    simp [State.faultCycle_active hm hh]
  · rw [h s rfl rfl]
    by_cases hport : s.rpc.portState = .parked <;> simp [State.raiseClaim, hport, State.startWake]

/-- A lookup with MEMC inactive comes to the lookup with MEMC active and its end (log 10). -/
theorem State.lookUpCycle_endCycle (pins : BusPins) :
    State.lookUpCycle { s with pbi := { s.pbi with memc := false } } pins = (s.lookUpCycle pins).endCycle := by
  rcases State.lookUpCycle_cases s.wtu s.rgd.regions pins with ⟨c, h⟩ | ⟨c, kind, h⟩ | ⟨dir, pa, n, _, h⟩
  · rw [h s rfl rfl, h { s with pbi := { s.pbi with memc := false } } rfl rfl]
    simp [State.standAside, State.endCycle, hm]
  · rw [h s rfl rfl, h { s with pbi := { s.pbi with memc := false } } rfl rfl, State.faultCycle_active hm hh]
    simp [State.faultCycle, State.releaseProcessor, State.endCycle, State.fileFault_withPbi]
  · rw [h s rfl rfl, h { s with pbi := { s.pbi with memc := false } } rfl rfl]
    by_cases hport : s.rpc.portState = .parked <;>
      simp [State.raiseClaim, hport, State.startWake, State.startOp, State.endCycle]

end

/-- Settles O13: a held window cycle is what `State.serveWindow` does, which on the quiet bus the held cycle leaves is
what the command of its pins does; a held memory cycle is looked up as one that begins. -/
theorem heldCycleIsServedFromIdle : Obligations.HeldCycleIsServedFromIdle := by
  intro pins s free
  refine ⟨fun h => exec_heldCycleServed_notDue h pins, fun hp hh => ?_, fun hp hh ho => ?_⟩
  · rw [exec_heldCycleServed_window hp hh]
    refine ⟨fun hsame => ?_, fun hr hw hne => ?_, fun hm ho hr hw => ?_, fun hm ho hr hw => ?_⟩
    · rw [State.serveWindow_same hsame]
    · rw [State.serveWindow_read hr hw, State.readAt_of_ne hne, State.readRegister_withPbi]
    · have hquiet : free.busQuiet := ⟨hp, hm, rfl⟩
      rw [State.serveWindow_read hr hw]
      refine congrArg _ (Eq.trans ?_ (State.windowCycle_quiet hquiet _).symm)
      rw [State.released_of_readOut_none (by exact ho)]
    · have hquiet : free.busQuiet := ⟨hp, hm, rfl⟩
      rw [State.serveWindow_write hr hw]
      refine congrArg _ (Eq.trans ?_ (State.windowCycle_quiet hquiet _).symm)
      rw [State.released_of_readOut_none (by exact ho)]
  · rw [exec_heldCycleServed_memory hp hh]
    constructor
    · intro hm
      rw [exec_memoryCycle_idle (s := free) hp rfl]
      simp only [free, hm, ho]
    · intro hm
      refine ⟨_, exec_memoryCycle_idle (s := free) hp rfl pins, congrArg _ ?_⟩
      rw [← State.endCycle_of_phase (State.lookUpCycle_phase rfl rfl pins), ← State.lookUpCycle_endCycle rfl rfl]
      simp only [free, hm, ho]

/-! ### The end of an access and of a cycle (R33, R40, R42) -/

theorem State.whit_iff (s : State) :
    s.whit = true ↔ s.pbi.phase = .waiting ∨ s.pbi.phase = .access ∨ s.pbi.phase = .ending := by
  cases h : s.pbi.phase <;> simp [State.whit, h]

theorem State.pwait_iff (s : State) :
    s.pwait = true ↔ s.pbi.phase = .waiting ∨ s.pbi.phase = .access ∨ s.pbi.held ≠ none := by
  cases h : s.pbi.phase <;> simp [State.pwait, h, Option.isSome_iff_ne_none]

theorem State.dataBus_idle {s : State} (h : s.pbi.phase = .idle) : s.dataBus = s.pbi.readOut := by
  simp only [State.dataBus, h]

theorem State.dataBus_off {s : State} (h : s.pbi.phase = .passive ∨ s.pbi.phase = .waiting ∨ s.pbi.phase = .access) :
    s.dataBus = none := by
  rcases h with h | h | h <;> simp only [State.dataBus, h]

theorem State.dataBus_ending {s : State} {c : CycleRecord} (h : s.pbi.phase = .ending) (hc : s.pbi.cycle = some c) :
    s.dataBus = if c.dir = .read then c.readData else none := by
  simp only [State.dataBus, h, hc, Option.bind_some]

theorem exec_cycleEnd_inactive {s : State} (hm : s.pbi.memc = false) : exec .cycleEnd s = .next s.released := by
  simp [exec, execCycleEnd, hm]

theorem exec_cycleEnd_active {s : State} (hm : s.pbi.memc = true) : exec .cycleEnd s = .next s.endCycle := by
  simp [exec, execCycleEnd, hm]

theorem exec_accessComplete_due {s : State} {k : OpKind} {left : Nat} {a : Access} {b : Byte}
    (hop : s.mseq.op = some ⟨k, left, .processor a b⟩) (hk : k = .read ∨ k = .write)
    (hholder : s.parb.holder = .processor) (hext : s.mseq.extension < 256) (md : Byte) :
    exec (.accessComplete md) s = .next (s.finishAccess md) := by
  rcases hk with rfl | rfl <;> simp [exec, execAccessComplete, hop, hholder, State.mayComplete, hext]

theorem State.finishAccess_some {s : State} {c : CycleRecord} (hc : s.pbi.cycle = some c) (md : Byte) :
    s.finishAccess md =
      s.endGrant.releaseProcessor (if c.dir = .read then { c with readData := some md } else c) := by
  simp only [State.finishAccess, hc]
  split <;> rfl

/-- Settles O24: the ends of a cycle by phase, the completion by `State.releaseProcessor`, the pins by phase. -/
theorem accessesCompleteAndCyclesEnd : Obligations.AccessesCompleteAndCyclesEnd := by
  refine ⟨fun s => ⟨exec_cycleEnd_inactive, fun hm hp => ?_, fun hm hp => ?_⟩,
    fun md s k left a b c hop hk hholder hc hext => ?_,
    fun s => ⟨s.whit_iff, s.pwait_iff, State.dataBus_idle, State.dataBus_off,
      fun c hp hc => ⟨fun hd => ?_, fun hd => ?_⟩⟩⟩
  · rw [exec_cycleEnd_active hm]
    rcases hp with hp | hp <;> simp only [State.endCycle, hp]
  · rw [exec_cycleEnd_active hm]
    rcases hp with hp | hp | hp <;> simp only [State.endCycle, hp]
  · rw [exec_accessComplete_due hop hk hholder hext, State.finishAccess_some hc]
    by_cases h : s.pbi.memc = true ∧ s.pbi.held = none
    · rw [if_pos h]
      exact congrArg _ (if_pos h)
    · rw [if_neg h]
      exact congrArg _ (if_neg h)
  · rw [State.dataBus_ending hp hc, if_pos hd]
  · rw [State.dataBus_ending hp hc, if_neg (by simp [hd])]

end Sys2Proof.Machine
end

section
/-! What every operation on a channel keeps (R98 to R108, R117): the clauses of `Channel.Ok` by name, and the channel
after each of its updates. -/
namespace Sys2Proof.Machine

/-! ### The clauses of `Channel.Ok` -/

/-- `Channel.Ok` but for its last clause, which an update may break until the check of R108 that follows it. -/
structure Channel.Core (c : Channel) : Prop where
  request_busy : c.port ≠ .none → c.state = .busy
  ready_empty : c.state = .ready → c.queue = []
  head : c.state = .busy ∨ c.state = .faulted ∨ c.state = .posting → c.queue ≠ []
  offer_posting : c.offer.isSome = true ↔ c.state = .posting
  offer_spells : ∀ o ∈ c.offer, ∀ d ∈ c.queue.head?, o.tag = d.tag ∧ o.remaining = d.remaining ∧
    o.notify = d.notify ∧ (o.status = .done ↔ d.remaining = 0)
  flush_granted : c.flushPending = true → c.granted = true
  hold_granted : c.holdPending = true → c.granted = true ∨ c.state = .posting
  off_clear : c.state = .off → c.latch = false ∧ c.overrun = false
  level_latch : c.inUse.sense = .level → c.latch = false
  free_config : c.port = .none → c.inUse = c.stored
  tak_paced : c.tak = true ↔ c.granted = true ∧ c.pacedHead = true
  tend_granted : c.tend = true → c.granted = true
  limit_free : c.port ≠ .none → (c.port.limit.isSome = true ↔ c.pacedHead = false)
  tail_left : ∀ d ∈ c.queue.tail, d.remaining ≠ 0
  head_left : ∀ d ∈ c.queue.head?, d.remaining = 0 → c.state = .posting

/-- A BUSY channel with neither claim nor grant waits for its pacing condition (R108). -/
def Channel.Settled (c : Channel) : Prop :=
  ∀ d ∈ c.queue.head?, c.state = .busy → c.port = .none → c.pacingHolds d = false

theorem Channel.ok_iff {c : Channel} : c.Ok ↔ c.Core ∧ c.Settled := by
  constructor
  · rintro ⟨h1, h2, h3, h4, h5, h6, h7, h8, h9, h10, h11, h12, h13, h14, h15, h16⟩
    exact ⟨⟨h1, h2, h3, h4, h5, h6, h7, h8, h9, h10, h11, h12, h13, h14, h15⟩, h16⟩
  · rintro ⟨⟨h1, h2, h3, h4, h5, h6, h7, h8, h9, h10, h11, h12, h13, h14, h15⟩, h16⟩
    exact ⟨h1, h2, h3, h4, h5, h6, h7, h8, h9, h10, h11, h12, h13, h14, h15, h16⟩

theorem Channel.granted_of_free {c : Channel} (h : c.port = .none) : c.granted = false := by
  simp [Channel.granted, h]

theorem Channel.claims_of_free {c : Channel} (h : c.port = .none) : c.claims = false := by
  simp [Channel.claims, h]

theorem Channel.settled_of_state {c : Channel} (h : c.state ≠ .busy) : c.Settled :=
  fun _ _ hb => absurd hb h

theorem Channel.settled_of_port {c : Channel} (h : c.port ≠ .none) : c.Settled :=
  fun _ _ _ hp => absurd hp h

/-! ### Channels with neither claim nor grant -/

theorem Channel.Core.free_of_state {c : Channel} (h : c.Core) (hs : c.state ≠ .busy) : c.port = .none :=
  not_not.mp fun hp => hs (h.request_busy hp)

/-- The clauses left of a channel with neither claim nor grant. -/
structure Channel.Free (c : Channel) : Prop where
  port : c.port = .none
  offer_spells : ∀ o ∈ c.offer, ∀ d ∈ c.queue.head?, o.tag = d.tag ∧ o.remaining = d.remaining ∧
    o.notify = d.notify ∧ (o.status = .done ↔ d.remaining = 0)
  flush : c.flushPending = false
  level_latch : c.inUse.sense = .level → c.latch = false
  config : c.inUse = c.stored
  tak : c.tak = false
  tend : c.tend = false
  tail_left : ∀ d ∈ c.queue.tail, d.remaining ≠ 0

theorem Channel.Core.free {c : Channel} (h : c.Core) (hp : c.port = .none) : c.Free := by
  have hg := Channel.granted_of_free hp
  refine ⟨hp, h.offer_spells, ?_, h.level_latch, h.free_config hp, ?_, ?_, h.tail_left⟩
  · simpa [hg] using h.flush_granted
  · simpa [hg] using h.tak_paced
  · simpa [hg] using h.tend_granted

/-- The states in which a channel that makes no request and no offer can be, by its queue (R107). -/
def Channel.StateFits (c : Channel) : Prop :=
  match c.state with
  | .off => c.latch = false ∧ c.overrun = false
  | .ready => c.queue = []
  | .busy => c.queue ≠ []
  | .held => True
  | .faulted => c.queue ≠ []
  | .posting => False

theorem Channel.Free.core {c : Channel} (h : c.Free) (hs : c.StateFits) (ho : c.offer = none)
    (hh : c.holdPending = false) (hleft : ∀ d ∈ c.queue.head?, d.remaining ≠ 0) : c.Core := by
  have hg := Channel.granted_of_free h.port
  have hnot : c.state ≠ .posting := fun hp => by simp [Channel.StateFits, hp] at hs
  exact {
    request_busy := fun hp => absurd h.port hp
    ready_empty := fun hr => by simpa [Channel.StateFits, hr] using hs
    head := by
      rintro (hb | hb | hb)
      · simpa [Channel.StateFits, hb] using hs
      · simpa [Channel.StateFits, hb] using hs
      · exact absurd hb hnot
    offer_posting := by simp [ho, hnot]
    offer_spells := h.offer_spells
    flush_granted := by simp [h.flush]
    hold_granted := by simp [hh]
    off_clear := fun hoff => by simpa [Channel.StateFits, hoff] using hs
    level_latch := h.level_latch
    free_config := fun _ => h.config
    tak_paced := by simp [h.tak, hg]
    tend_granted := by simp [h.tend]
    limit_free := fun hp => absurd h.port hp
    tail_left := h.tail_left
    head_left := fun d hd h0 => absurd h0 (hleft d hd) }

/-! ### The end of a claim or a grant (R104, R117) -/

theorem Channel.Core.release_free {c : Channel} (h : c.Core) (hf : c.flushPending = false) : c.release.Free where
  port := c.release_port
  offer_spells := h.offer_spells
  flush := hf
  level_latch := by
    intro hs
    rw [Channel.release_inUse] at hs
    rw [Channel.release_latch, Bool.and_eq_false_iff]
    by_cases heq : c.inUse.sense = c.stored.sense
    · exact .inl (h.level_latch (heq.trans hs))
    · exact .inr (by simpa using heq)
  config := rfl
  tak := c.release_tak
  tend := c.release_tend
  tail_left := h.tail_left

section
variable {c : Channel} (h : c.Core)
include h

theorem Channel.Core.offer_none (hs : c.state ≠ .posting) : c.offer = none := by
  simpa [hs] using h.offer_posting

theorem Channel.Core.left (hs : c.state ≠ .posting) : ∀ d ∈ c.queue.head?, d.remaining ≠ 0 :=
  fun d hd h0 => hs (h.head_left d hd h0)

theorem Channel.Core.no_hold (hs : c.state ≠ .posting) (hg : c.granted = false) : c.holdPending = false := by
  simpa [hs, hg] using h.hold_granted

theorem Channel.Core.no_flush (hg : c.granted = false) : c.flushPending = false := by
  simpa [hg] using h.flush_granted

/-! ### The updates of the strobes -/

/-- A new state, latch and overrun flag of a channel that makes no request and no offer. -/
theorem Channel.Core.restate (hp : c.port = .none) (hs : c.state ≠ .posting) {st : ChanState} {latch overrun : Bool}
    (hl : c.inUse.sense = .level → latch = false)
    (hfit : Channel.StateFits { c with state := st, latch := latch, overrun := overrun }) :
    Channel.Core { c with state := st, latch := latch, overrun := overrun } :=
  Channel.Free.core { h.free hp with level_latch := hl } hfit (h.offer_none hs)
    (h.no_hold hs (Channel.granted_of_free hp)) (h.left hs)

/-- The claim or the grant of a channel that makes no offer is lost, and no hold stays pending. -/
theorem Channel.Core.leave (hs : c.state ≠ .posting) (hf : c.flushPending = false) {st : ChanState}
    {overrun hold : Bool} (hh : hold = false)
    (hfit : Channel.StateFits { c.release with state := st, overrun := overrun, holdPending := hold }) :
    Channel.Core { c.release with state := st, overrun := overrun, holdPending := hold } :=
  Channel.Free.core { h.release_free hf with } hfit (h.offer_none hs) hh (h.left hs)

theorem Channel.Core.enqueue {d : Descriptor} (hs : c.state ≠ .ready) (hd : d.remaining ≠ 0) :
    Channel.Core { c with queue := c.queue ++ [d] } := by
  cases hq : c.queue with
  | nil =>
    have hb : c.state ≠ .busy := fun hb => h.head (.inl hb) hq
    have hf : c.state ≠ .faulted := fun hb => h.head (.inr (.inl hb)) hq
    have hp : c.state ≠ .posting := fun hb => h.head (.inr (.inr hb)) hq
    have hfree := h.free_of_state hb
    have hfit : Channel.StateFits { c with queue := [d] } := by
      cases hst : c.state with
      | off => simpa [Channel.StateFits, hst] using h.off_clear hst
      | held => trivial
      | ready => exact absurd hst hs
      | busy => exact absurd hst hb
      | faulted => exact absurd hst hf
      | posting => exact absurd hst hp
    exact Channel.Free.core { h.free hfree with offer_spells := by simp [h.offer_none hp], tail_left := by simp }
      hfit (h.offer_none hp) (h.no_hold hp (Channel.granted_of_free hfree)) (by simpa using hd)
  | cons x xs =>
    have hpaced : Channel.pacedHead { c with queue := x :: xs ++ [d] } = c.pacedHead := by
      simp [Channel.pacedHead, hq]
    have hspells := h.offer_spells
    have htail := h.tail_left
    have hleft := h.head_left
    simp only [hq] at hspells htail hleft
    exact { h with
      ready_empty := fun hr => absurd hr hs
      head := by simp
      offer_spells := hspells
      tak_paced := by rw [hpaced]; exact h.tak_paced
      limit_free := by rw [hpaced]; exact h.limit_free
      tail_left := by
        intro y hy
        have hcases : y ∈ xs ∨ y = d := by simpa using hy
        rcases hcases with hy | rfl
        · exact htail y hy
        · exact hd
      head_left := hleft }

theorem Channel.Core.setHold (hg : c.granted = true ∨ c.state = .posting) :
    Channel.Core { c with holdPending := true } :=
  { h with hold_granted := fun _ => hg }

theorem Channel.Core.setFlush (hg : c.granted = true) : Channel.Core { c with flushPending := true } :=
  { h with flush_granted := fun _ => hg }

/-- A new stored configuration, in use at once with neither claim nor grant (R104). -/
theorem Channel.Core.configure (cfg : ChanConfig) : (Channel.adopt { c with stored := cfg }).Core := by
  by_cases hp : c.port = .none
  · rw [Channel.adopt_of_free (by exact hp)]
    exact { h with
      off_clear := fun hoff => ⟨by simp [(h.off_clear hoff).1], (h.off_clear hoff).2⟩
      level_latch := by
        intro hs
        rw [Bool.and_eq_false_iff]
        by_cases heq : c.inUse.sense = cfg.sense
        · exact .inl (h.level_latch (heq.trans hs))
        · exact .inr (by simpa using heq)
      free_config := fun _ => rfl }
  · rw [Channel.adopt, if_neg (by exact hp)]
    exact { h with free_config := fun hfree => absurd hfree hp }

/-! ### The updates of the request line (R114 to R116) -/

theorem Channel.Core.line (level : Bool) : Channel.Core { c with trq := level } := { h with }

theorem Channel.Core.setLatch {level : Bool} (hs : c.state ≠ .off) (he : c.inUse.sense = .edge) :
    Channel.Core { c with trq := level, latch := true } :=
  { h with
    off_clear := fun hoff => absurd hoff hs
    level_latch := fun hl => by simp [he] at hl }

theorem Channel.Core.setOverrun (hs : c.state ≠ .off) : Channel.Core { c with overrun := true } :=
  { h with off_clear := fun hoff => absurd hoff hs }

/-! ### The updates of a claim and of a grant (R106, R110, R117) -/

theorem Channel.Core.raise {d : Descriptor} {rest : List Descriptor} (hq : c.queue = d :: rest) (hb : c.state = .busy)
    (hp : c.port = .none) : Channel.Core { c with port := .claim (c.burstCarried d) } := by
  have hg := Channel.granted_of_free hp
  have hposting : c.state ≠ .posting := by simp [hb]
  have htak : c.tak = false := (h.free hp).tak
  have htend : c.tend = false := (h.free hp).tend
  exact { h with
    request_busy := fun _ => hb
    flush_granted := by simp [h.no_flush hg]
    hold_granted := by simp [h.no_hold hposting hg]
    free_config := nofun
    tak_paced := by simp [htak, Channel.granted]
    tend_granted := by simp [htend]
    limit_free := by
      intro _
      cases hpace : d.pacing <;>
        simp [PortRequest.limit, Channel.burstCarried, Channel.pacedHead, hq, hpace] }

theorem Channel.Core.take {d : Descriptor} {rest : List Descriptor} {limit : Option Nat} (hq : c.queue = d :: rest)
    (hp : c.port = .claim limit) : (c.take d limit).Core := by
  have hclaim : c.port ≠ .none := by simp [hp]
  have hlimit := h.limit_free hclaim
  rw [hp] at hlimit
  exact { h with
    request_busy := fun _ => h.request_busy hclaim
    flush_granted := fun _ => rfl
    hold_granted := fun _ => .inl rfl
    off_clear := fun hoff => absurd (h.request_busy hclaim) (by rw [show c.state = .off from hoff]; simp)
    level_latch := fun hl => by
      have hlevel : c.inUse.sense = .level := hl
      simp [Channel.take, hlevel, h.level_latch hlevel]
    free_config := nofun
    tak_paced := by simp [Channel.take, Channel.granted, Channel.pacedHead, hq]
    tend_granted := fun _ => rfl
    limit_free := fun _ => hlimit }

/-- TEND during a grant (R117). -/
theorem Channel.Core.setTend (hg : c.granted = true) (tend : Bool) : Channel.Core { c with tend := tend } :=
  { h with tend_granted := fun _ => hg }

/-- The next unit of a burst (R53): the head has advanced, and the grant goes on. -/
theorem Channel.Core.goOn {d : Descriptor} {rest : List Descriptor} (hq : c.queue = d :: rest)
    (hg : c.granted = true) (hd : d.advance.remaining ≠ 0) :
    Channel.Core { c with queue := d.advance :: rest, port := c.port.unitMoved, tend := false } := by
  obtain ⟨limit, moved, hp⟩ := Channel.granted_iff.mp hg
  have hport : c.port ≠ .none := by simp [hp]
  have hbusy : c.state = .busy := h.request_busy hport
  have hpaced : Channel.pacedHead { c with queue := d.advance :: rest, port := c.port.unitMoved, tend := false } =
      c.pacedHead := by
    simp only [Channel.pacedHead, hq, Descriptor.advance]
  have hgranted : Channel.granted { c with queue := d.advance :: rest, port := c.port.unitMoved, tend := false } =
      true := by
    simp [Channel.granted, hp, PortRequest.unitMoved]
  have hlimit := h.limit_free hport
  rw [hp] at hlimit
  have htail := h.tail_left
  rw [hq] at htail
  exact { h with
    request_busy := fun _ => hbusy
    ready_empty := fun hr => by simp [hbusy] at hr
    head := by simp
    offer_spells := by simp [h.offer_none (by simp [hbusy])]
    flush_granted := fun _ => hgranted
    hold_granted := fun _ => .inl hgranted
    free_config := fun hfree => by simp [hp, PortRequest.unitMoved] at hfree
    tak_paced := by
      rw [hpaced, hgranted]
      simpa only [hg] using h.tak_paced
    tend_granted := nofun
    limit_free := by
      rw [hpaced]
      intro _
      simpa [hp, PortRequest.unitMoved, PortRequest.limit] using hlimit
    tail_left := htail
    head_left := by
      rintro _ ⟨⟩ h0
      exact absurd h0 hd }

end

/-! ### Posting (R118, R119) -/

theorem Channel.post_cons {c : Channel} {d : Descriptor} {rest : List Descriptor} (hq : c.queue = d :: rest)
    (status : Status) :
    c.post status =
      { c with state := .posting
               offer := some { status := status, tag := d.tag, remaining := d.remaining, notify := d.notify } } := by
  simp only [Channel.post, hq]

theorem Channel.Free.post {c : Channel} (h : c.Free) {d : Descriptor} {rest : List Descriptor}
    (hq : c.queue = d :: rest) {status : Status} (hd : status = .done ↔ d.remaining = 0) :
    (c.post status).Core := by
  have hg := Channel.granted_of_free h.port
  rw [Channel.post_cons hq]
  exact {
    request_busy := fun hp => absurd h.port hp
    ready_empty := nofun
    head := by simp [hq]
    offer_posting := by simp
    offer_spells := by simp [hq, hd]
    flush_granted := by simp [h.flush]
    hold_granted := fun _ => .inr rfl
    off_clear := nofun
    level_latch := h.level_latch
    free_config := fun _ => h.config
    tak_paced :=
      ⟨fun ht => absurd (h.tak.symm.trans ht) nofun, fun ⟨hgrant, _⟩ => absurd (hg.symm.trans hgrant) nofun⟩
    tend_granted := by simp [h.tend]
    limit_free := fun hp => absurd h.port hp
    tail_left := h.tail_left
    head_left := fun _ _ _ => rfl }

theorem Channel.Core.posted {c : Channel} (h : c.Core) (hs : c.state = .posting) (o : Offer) : (c.posted o).Core := by
  have hfree := h.free (h.free_of_state (by simp [hs]))
  cases hq : c.queue with
  | nil => exact absurd hq (h.head (.inr (.inr hs)))
  | cons d rest =>
    have hleft : ∀ x ∈ rest, x.remaining ≠ 0 := by simpa [hq] using h.tail_left
    have hhead : ∀ x ∈ rest.head?, x.remaining ≠ 0 := fun x hx => hleft x (List.mem_of_mem_head? hx)
    have htail : ∀ x ∈ rest.tail, x.remaining ≠ 0 := fun x hx => hleft x (List.mem_of_mem_tail hx)
    simp only [Channel.posted, hq, List.tail_cons]
    split
    next => exact Channel.Free.core { hfree with offer_spells := nofun, tail_left := htail } trivial rfl rfl hhead
    next hstop =>
      have hhold : c.holdPending = false := by
        simpa using fun hhold => hstop (.inr (.inr hhold))
      split
      next hnil =>
        exact Channel.Free.core { hfree with offer_spells := nofun, tail_left := htail } hnil rfl hhold hhead
      next hcons =>
        exact Channel.Free.core { hfree with offer_spells := nofun, tail_left := htail } hcons rfl hhold hhead

/-! ### Flush, reset and the end of a unit (R99, R110, R124, R158) -/

theorem Channel.flushed_ok (c : Channel) : c.flushed.Ok :=
  Channel.ok_iff.mpr ⟨Channel.Free.core
    { port := rfl, offer_spells := nofun, flush := rfl, level_latch := fun _ => rfl, config := rfl, tak := rfl,
      tend := rfl, tail_left := nofun } ⟨rfl, rfl⟩ rfl rfl nofun,
    Channel.settled_of_state (by simp [Channel.flushed])⟩

theorem Channel.reset_ok (trq : Bool) : (Channel.reset trq).Ok :=
  Channel.ok_iff.mpr ⟨Channel.Free.core
    { port := rfl, offer_spells := nofun, flush := rfl, level_latch := fun _ => rfl, config := rfl, tak := rfl,
      tend := rfl, tail_left := nofun } ⟨rfl, rfl⟩ rfl rfl nofun, Channel.settled_of_state (by simp [Channel.reset])⟩

end Sys2Proof.Machine
end

section
/-! What an operation on one channel does to the state (chapters 7 to 9): the frame of `State.Touches`, which keeps
the other channels, the capacities and the sequence numbers, and the channel itself, which stays in order. -/
namespace Sys2Proof.Machine

/-! ### The part of the state the memory port works on -/

/-- What the invariants of the processor bus, the sequencer, the open row and the port state are about. -/
def State.portView (s : State) : Pbi × Holder × Mseq × Rpc × Quad RegionEntry :=
  (s.pbi, s.parb.holder, s.mseq, s.rpc, s.rgd.regions)

/-- A change of fields that `State.portView` does not show is seen by `rfl`; these are the shared operations. -/
@[simp] theorem State.portView_setChan (s : State) (n : Fin 4) (c : Channel) :
    (s.setChan n c).portView = s.portView := by rfl

@[simp] theorem State.portView_setResult (s : State) (r : ResultCode) : (s.setResult r).portView = s.portView := by
  rfl

@[simp] theorem State.portView_fileFault (s : State) (r : FaultRecord) : (s.fileFault r).portView = s.portView := by
  simp [State.portView]

@[simp] theorem State.portView_checkUnit (s : State) (n : Fin 4) : (s.checkUnit n).portView = s.portView := by
  simp [State.portView]

@[simp] theorem State.portView_takeRecord (s : State) (n : Fin 4) : (s.takeRecord n).portView = s.portView := by
  simp [State.portView]

@[simp] theorem State.portView_failUnit (s : State) (n : Fin 4) (kind : FaultKind) (dir : FaultDir)
    (addr : PhysAddr) : (s.failUnit n kind dir addr).portView = s.portView := by
  rw [State.failUnit_eq]
  rfl

/-! ### Capacities -/

/-- The capacities of a channel (R98, R103). -/
abbrev Channel.Cap (c : Channel) : Prop := c.queue.length ≤ 8 ∧ c.stored.Ok ∧ c.inUse.Ok

/-- The capacities that lie outside the channels and the Completion Log (R67, R78, R80, R142). -/
abbrev State.CountsOk (s : State) : Prop :=
  s.flog.records.length ≤ 4 ∧ s.rpc.debt ≤ 8 ∧ (1 ≤ s.rpc.rfurg ∧ s.rpc.rfurg ≤ 8) ∧ s.mseq.extension ≤ 256

theorem State.capacityOk_iff {s : State} :
    s.CapacityOk ↔
      (∀ n, (s.chan n).Cap) ∧ s.clog.records.length ≤ 16 ∧ s.txe.flushn ≤ 8 ∧ s.CountsOk := by
  constructor
  · rintro ⟨hchan, hclog, hflog, hdebt, hurg, hflush, hext⟩
    exact ⟨hchan, hclog, hflush, hflog, hdebt, hurg, hext⟩
  · rintro ⟨hchan, hclog, hflush, hflog, hdebt, hurg, hext⟩
    exact ⟨hchan, hclog, hflog, hdebt, hurg, hflush, hext⟩

theorem Channel.Cap.release {c : Channel} (h : c.Cap) : c.release.Cap := ⟨h.1, h.2.1, h.2.1⟩

theorem Channel.Cap.adopt {c : Channel} (h : c.Cap) : c.adopt.Cap := by
  unfold Channel.adopt
  split
  · exact ⟨h.1, h.2.1, h.2.1⟩
  · exact h

/-! ### The frame of an operation on channel n -/

/-- From `s` to `t` the operation touched, of the channels, channel n alone: the regions and what PARB says of every
other channel stand, no capacity is passed, and CLOG takes records in sequence. -/
structure State.Touches (n : Fin 4) (s t : State) : Prop where
  regions : t.rgd.regions = s.rgd.regions
  holder : ∀ m, m ≠ n → (t.parb.holder = .channel m ↔ s.parb.holder = .channel m)
  other : ∀ m, m ≠ n → t.chan m = s.chan m
  capacity : s.CapacityOk → t.CapacityOk
  sequence : s.SequenceOk → t.SequenceOk
  log : s.clog.records.length ≤ t.clog.records.length

theorem State.Touches.refl (n : Fin 4) (s : State) : State.Touches n s s :=
  ⟨rfl, fun _ _ => Iff.rfl, fun _ _ => rfl, id, id, le_rfl⟩

theorem State.Touches.trans {n : Fin 4} {s t u : State} (h : State.Touches n s t) (k : State.Touches n t u) :
    State.Touches n s u where
  regions := k.regions.trans h.regions
  holder m hm := (k.holder m hm).trans (h.holder m hm)
  other m hm := (k.other m hm).trans (h.other m hm)
  capacity := k.capacity ∘ h.capacity
  sequence := k.sequence ∘ h.sequence
  log := h.log.trans k.log

/-- An operation that leaves the channels, the Completion Log, the regions and a channel's grant as they stand. -/
structure State.PortOp (s t : State) : Prop where
  regions : t.rgd.regions = s.rgd.regions
  holder : ∀ m, t.parb.holder = .channel m ↔ s.parb.holder = .channel m
  chans : t.txe.chans = s.txe.chans
  flushn : t.txe.flushn = s.txe.flushn
  clog : t.clog = s.clog
  counts : s.CountsOk → t.CountsOk

theorem State.PortOp.refl (s : State) : State.PortOp s s :=
  ⟨rfl, fun _ => Iff.rfl, rfl, rfl, rfl, id⟩

theorem State.PortOp.trans {s t u : State} (h : State.PortOp s t) (k : State.PortOp t u) : State.PortOp s u where
  regions := k.regions.trans h.regions
  holder m := (k.holder m).trans (h.holder m)
  chans := k.chans.trans h.chans
  flushn := k.flushn.trans h.flushn
  clog := k.clog.trans h.clog
  counts := k.counts ∘ h.counts

theorem State.chan_of_chans {s t : State} (h : t.txe.chans = s.txe.chans) (m : Fin 4) : t.chan m = s.chan m := by
  simp only [State.chan, h]

theorem State.PortOp.capacity {s t : State} (h : State.PortOp s t) (hs : s.CapacityOk) : t.CapacityOk := by
  obtain ⟨hchan, hclog, hflush, hcounts⟩ := State.capacityOk_iff.mp hs
  exact State.capacityOk_iff.mpr ⟨fun n => State.chan_of_chans h.chans n ▸ hchan n, h.clog ▸ hclog,
    h.flushn ▸ hflush, h.counts hcounts⟩

theorem State.PortOp.sequence {s t : State} (h : State.PortOp s t) (hs : s.SequenceOk) : t.SequenceOk := by
  unfold State.SequenceOk
  rw [h.clog]
  exact hs

theorem State.PortOp.touches {s t : State} (h : State.PortOp s t) (n : Fin 4) : State.Touches n s t where
  regions := h.regions
  holder m _ := h.holder m
  other m _ := State.chan_of_chans h.chans m
  capacity := h.capacity
  sequence := h.sequence
  log := by rw [h.clog]

theorem State.Touches.setChan {n : Fin 4} (s : State) {c : Channel} (hcap : (s.chan n).Cap → c.Cap) :
    State.Touches n s (s.setChan n c) where
  regions := rfl
  holder _ _ := Iff.rfl
  other m hm := s.chan_setChan_ne c hm
  capacity hs := by
    obtain ⟨hchan, hrest⟩ := State.capacityOk_iff.mp hs
    refine State.capacityOk_iff.mpr ⟨fun m => ?_, hrest⟩
    rw [State.chan_setChan]
    split
    · exact hcap (hchan n)
    · exact hchan m
  sequence := id
  log := le_rfl

theorem State.PortOp.fileFault (s : State) (r : FaultRecord) : State.PortOp s (s.fileFault r) where
  regions := by simp
  holder := by simp
  chans := by simp
  flushn := by simp
  clog := by simp
  counts := by
    rintro ⟨hflog, hrest⟩
    exact ⟨s.fileFault_length_le r hflog, by simpa using hrest⟩

theorem State.PortOp.setResult (s : State) (r : ResultCode) : State.PortOp s (s.setResult r) :=
  ⟨rfl, fun _ => Iff.rfl, rfl, rfl, rfl, id⟩

theorem State.Touches.failUnit (s : State) (n : Fin 4) (kind : FaultKind) (dir : FaultDir) (addr : PhysAddr) :
    State.Touches n s (s.failUnit n kind dir addr) :=
  ((State.PortOp.fileFault s _).touches n).trans
    (State.Touches.setChan _ fun h => Channel.Cap.release (by simpa using h))

theorem State.Touches.checkUnit (s : State) (n : Fin 4) : State.Touches n s (s.checkUnit n) := by
  rcases s.checkUnit_cases n with h | ⟨d, rest, _, _, _, h⟩ | ⟨kind, dir, addr, _, _, h⟩ <;> rw [h]
  · exact State.Touches.refl n s
  · exact State.Touches.setChan s id
  · exact State.Touches.failUnit s n kind dir addr

/-- A record posted takes the head and the offer, and leaves the channel in HELD, READY or BUSY (R119). -/
theorem Channel.posted_eq (c : Channel) (o : Offer) :
    c.posted o = { c with queue := c.queue.tail, offer := none, state := (c.posted o).state,
                          holdPending := (c.posted o).holdPending } := by
  unfold Channel.posted
  dsimp only
  repeat' split
  all_goals rfl

theorem Channel.posted_state_ne (c : Channel) (o : Offer) : (c.posted o).state ≠ .posting := by
  unfold Channel.posted
  dsimp only
  repeat' split
  all_goals nofun

theorem Channel.Cap.posted {c : Channel} (h : c.Cap) (o : Offer) : (c.posted o).Cap := by
  obtain ⟨hq, hcfg⟩ := h
  rw [c.posted_eq o]
  exact ⟨(List.length_tail ▸ Nat.sub_le _ _ : c.queue.tail.length ≤ c.queue.length).trans hq, hcfg⟩

/-- A record taken while the log has room (R131, R132). -/
theorem State.Touches.takeRecord {s : State} (hroom : s.clog.records.length < 16) (n : Fin 4) :
    State.Touches n s (s.takeRecord n) := by
  cases ho : (s.chan n).offer with
  | none =>
    rw [State.takeRecord_none ho]
    exact State.Touches.refl n s
  | some o =>
    rw [State.takeRecord_some ho]
    refine State.Touches.trans ?_ (State.Touches.checkUnit _ n)
    exact {
      regions := rfl
      holder := fun _ _ => Iff.rfl
      other := fun m hm => s.chan_setChan_ne _ hm
      capacity := by
        intro hs
        obtain ⟨hchan, hlog, hrest⟩ := State.capacityOk_iff.mp
          ((State.Touches.setChan s fun h => Channel.Cap.posted h o).capacity hs)
        exact State.capacityOk_iff.mpr ⟨hchan, by simpa using hroom, hrest⟩
      sequence := fun hs => seqRun_append _ _ _ hs rfl
      log := by simp }

theorem State.Touches.offerRecord (s : State) (n : Fin 4) : State.Touches n s (s.offerRecord n) := by
  unfold State.offerRecord
  split
  next hroom => exact State.Touches.takeRecord hroom n
  next => exact State.Touches.refl n s

theorem Channel.Cap.post {c : Channel} (h : c.Cap) (status : Status) : (c.post status).Cap := by
  unfold Channel.post
  split <;> exact h

theorem State.Touches.postHead (s : State) (n : Fin 4) (status : Status) :
    State.Touches n s (s.postHead n status) :=
  (State.Touches.setChan s fun h => Channel.Cap.post h status).trans (State.Touches.offerRecord _ n)

theorem State.Touches.flushNow (s : State) (n : Fin 4) : State.Touches n s (s.flushNow n) where
  regions := rfl
  holder _ _ := Iff.rfl
  other m hm := s.chan_setChan_ne _ hm
  capacity hs := by
    obtain ⟨hold, -⟩ := State.capacityOk_iff.mp hs
    obtain ⟨hchan, hlog, -, hcounts⟩ := State.capacityOk_iff.mp
      ((State.Touches.setChan s (c := (s.chan n).flushed) fun h => ⟨Nat.zero_le 8, h.2.1, h.2.1⟩).capacity hs)
    exact State.capacityOk_iff.mpr ⟨hchan, hlog, (hold n).1, hcounts⟩
  sequence := id
  log := le_rfl

theorem State.Touches.actPending (s : State) (n : Fin 4) : State.Touches n s (s.actPending n) := by
  unfold State.actPending
  dsimp only
  repeat' split
  · exact State.Touches.flushNow s n
  · exact State.Touches.postHead s n .done
  · exact State.Touches.setChan s id
  · exact State.Touches.setChan s id
  · exact State.Touches.refl n s

@[simp] theorem State.portView_offerRecord (s : State) (n : Fin 4) : (s.offerRecord n).portView = s.portView := by
  unfold State.offerRecord
  split <;> simp

@[simp] theorem State.portView_postHead (s : State) (n : Fin 4) (status : Status) :
    (s.postHead n status).portView = s.portView := by
  simp [State.postHead]

@[simp] theorem State.portView_flushNow (s : State) (n : Fin 4) : (s.flushNow n).portView = s.portView := by rfl

@[simp] theorem State.portView_actPending (s : State) (n : Fin 4) : (s.actPending n).portView = s.portView := by
  unfold State.actPending
  dsimp only
  repeat' split
  all_goals simp

@[simp] theorem State.portView_takeWaiting (s : State) : s.takeWaiting.portView = s.portView := by
  unfold State.takeWaiting
  split <;> simp

/-! ### The channel of the operation -/

/-- What `State.ChannelsOk` says of channel n. -/
structure State.Fits (s : State) (n : Fin 4) : Prop where
  ok : (s.chan n).Ok
  waits : (s.chan n).state = .posting → 16 ≤ s.clog.records.length
  passes : s.claimFails n = false
  holder : s.parb.holder = .channel n ↔ (s.chan n).granted = true

theorem State.channelsOk_iff {s : State} : s.ChannelsOk ↔ ∀ n, s.Fits n :=
  ⟨fun ⟨hok, hwait, hpass, hholder⟩ n => ⟨hok n, hwait n, hpass n, hholder n⟩,
    fun h => ⟨fun n => (h n).ok, fun n => (h n).waits, fun n => (h n).passes, fun n => (h n).holder⟩⟩

/-- `State.Fits` of a channel that R108 has still to check. -/
structure State.Loose (s : State) (n : Fin 4) : Prop where
  core : (s.chan n).Core
  waits : (s.chan n).state = .posting → 16 ≤ s.clog.records.length
  passes : s.claimFails n = false
  holder : s.parb.holder = .channel n ↔ (s.chan n).granted = true

theorem State.Loose.fits {s : State} {n : Fin 4} (h : s.Loose n) (hs : (s.chan n).Settled) : s.Fits n :=
  ⟨Channel.ok_iff.mpr ⟨h.core, hs⟩, h.waits, h.passes, h.holder⟩

theorem State.Fits.core {s : State} {n : Fin 4} (h : s.Fits n) : (s.chan n).Core := (Channel.ok_iff.mp h.ok).1

theorem State.Fits.settled {s : State} {n : Fin 4} (h : s.Fits n) : (s.chan n).Settled := (Channel.ok_iff.mp h.ok).2

theorem State.Fits.loose {s : State} {n : Fin 4} (h : s.Fits n) : s.Loose n :=
  ⟨h.core, h.waits, h.passes, h.holder⟩

/-- A claim is judged by the channel and the region table alone. -/
theorem State.claimFails_congr {s t : State} {n : Fin 4} (hc : t.chan n = s.chan n)
    (hr : t.rgd.regions = s.rgd.regions) : t.claimFails n = s.claimFails n := by
  simp only [State.claimFails, hc, hr]

theorem State.claimFails_of_no_claim {s : State} {n : Fin 4} (h : (s.chan n).claims = false) :
    s.claimFails n = false := by
  simp [State.claimFails, h]

theorem State.Touches.fits_other {n m : Fin 4} {s t : State} (h : State.Touches n s t) (hm : m ≠ n)
    (hs : s.Fits m) : t.Fits m := by
  have hc := h.other m hm
  exact ⟨hc ▸ hs.ok, fun hp => (hs.waits (hc ▸ hp)).trans h.log,
    (State.claimFails_congr hc h.regions).trans hs.passes, (h.holder m hm).trans (hc ▸ hs.holder)⟩

/-! ### What the commands and the clock keep -/

/-- From `s` to `t` the capacities, the sequence numbers and the channels stay in order. -/
structure State.Keeps (s t : State) : Prop where
  capacity : s.CapacityOk → t.CapacityOk
  sequence : s.SequenceOk → t.SequenceOk
  channels : s.ChannelsOk → t.ChannelsOk

theorem State.Keeps.refl (s : State) : State.Keeps s s := ⟨id, id, id⟩

theorem State.Keeps.trans {s t u : State} (h : State.Keeps s t) (k : State.Keeps t u) : State.Keeps s u :=
  ⟨k.capacity ∘ h.capacity, k.sequence ∘ h.sequence, k.channels ∘ h.channels⟩

theorem State.Touches.keeps {n : Fin 4} {s t : State} (h : State.Touches n s t) (hn : s.Fits n → t.Fits n) :
    State.Keeps s t where
  capacity := h.capacity
  sequence := h.sequence
  channels hs := by
    rw [State.channelsOk_iff] at hs ⊢
    intro m
    by_cases hm : m = n
    · rw [hm]
      exact hn (hs n)
    · exact h.fits_other hm (hs m)

theorem State.PortOp.keeps {s t : State} (h : State.PortOp s t) : State.Keeps s t :=
  (h.touches 0).keeps fun hs =>
    have hc := State.chan_of_chans h.chans 0
    ⟨hc ▸ hs.ok, fun hp => h.clog ▸ hs.waits (hc ▸ hp), (State.claimFails_congr hc h.regions).trans hs.passes,
      (h.holder 0).trans (hc ▸ hs.holder)⟩

end Sys2Proof.Machine
end

section
/-! The shared operations on a channel leave it in order: the unit check, posting, the flush and the pending flags
(R108, R109, R118, R119, R124, R125). -/
namespace Sys2Proof.Machine

/-- The channel written is in order when the channel itself is, waits for nothing, claims nothing, and holds the grant
as PARB says. -/
theorem State.Loose.setChan {s : State} {n : Fin 4} {c : Channel} (hc : c.Core) (hs : c.state ≠ .posting)
    (hclaims : c.claims = false) (hholder : s.parb.holder = .channel n ↔ c.granted = true) :
    (s.setChan n c).Loose n where
  core := by simpa using hc
  waits hp := absurd (by simpa using hp) hs
  passes := State.claimFails_of_no_claim (by simpa using hclaims)
  holder := by simpa using hholder

theorem State.Fits.setChan {s : State} {n : Fin 4} {c : Channel} (hc : c.Ok) (hs : c.state ≠ .posting)
    (hclaims : c.claims = false) (hholder : s.parb.holder = .channel n ↔ c.granted = true) : (s.setChan n c).Fits n :=
  have ⟨hcore, hsettled⟩ := Channel.ok_iff.mp hc
  (State.Loose.setChan hcore hs hclaims hholder).fits (by simpa using hsettled)

/-- A channel with neither claim nor grant, which PARB does not name. -/
theorem State.Fits.setFree {s : State} {n : Fin 4} {c : Channel} (hc : c.Core) (hport : c.port = .none)
    (hb : c.state ≠ .busy) (hs : c.state ≠ .posting) (hholder : s.parb.holder ≠ .channel n) :
    (s.setChan n c).Fits n :=
  State.Fits.setChan (Channel.ok_iff.mpr ⟨hc, Channel.settled_of_state hb⟩) hs (Channel.claims_of_free hport)
    (iff_of_false hholder (by simp [Channel.granted_of_free hport]))

theorem State.Loose.setFree {s : State} {n : Fin 4} {c : Channel} (hc : c.Core) (hport : c.port = .none)
    (hs : c.state ≠ .posting) (hholder : s.parb.holder ≠ .channel n) : (s.setChan n c).Loose n :=
  State.Loose.setChan hc hs (Channel.claims_of_free hport)
    (iff_of_false hholder (by simp [Channel.granted_of_free hport]))

theorem State.Loose.not_holder {s : State} {n : Fin 4} (h : s.Loose n) (hg : (s.chan n).granted = false) :
    s.parb.holder ≠ .channel n := fun hh => by
  rw [h.holder.mp hh] at hg
  cases hg

/-! ### The unit check -/

theorem State.failUnit_fits {s : State} {n : Fin 4} (hc : (s.chan n).Core) (hb : (s.chan n).state = .busy)
    (hg : (s.chan n).granted = false) (hholder : s.parb.holder ≠ .channel n) (kind : FaultKind) (dir : FaultDir)
    (addr : PhysAddr) : (s.failUnit n kind dir addr).Fits n := by
  have hposting : (s.chan n).state ≠ .posting := by simp [hb]
  refine State.Fits.setFree ?_ rfl nofun nofun (by simpa using hholder)
  exact hc.leave hposting (hc.no_flush hg) (hc.no_hold hposting hg) (hc.head (.inl hb))

/-- The check of R108 leaves every channel in order that was so but for the check. -/
theorem State.Loose.checkUnit {s : State} {n : Fin 4} (h : s.Loose n) : (s.checkUnit n).Fits n := by
  cases hq : (s.chan n).queue with
  | nil =>
    rw [State.checkUnit_nil hq]
    exact h.fits (by simp [Channel.Settled, hq])
  | cons d rest =>
    rw [State.checkUnit_cons hq]
    split
    next hdue =>
      obtain ⟨hb, hp, -⟩ := hdue
      have hg := Channel.granted_of_free hp
      split
      next hv =>
        refine ⟨?_, fun hposting => ?_, ?_, ?_⟩
        · rw [State.chan_setChan_same]
          exact Channel.ok_iff.mpr ⟨h.core.raise hq hb hp, Channel.settled_of_port nofun⟩
        · simp [hb] at hposting
        · simp [State.claimFails, hq, hv]
        · simpa using h.holder.trans (by rw [hg]; rfl)
      next => exact State.failUnit_fits h.core hb hg (h.not_holder hg) _ _ _
    next hdue =>
      refine h.fits fun x hx hb hp => ?_
      simp only [hq, List.head?_cons, Option.mem_def, Option.some.injEq] at hx
      subst hx
      simpa [hb, hp] using hdue

/-! ### Posting -/

theorem State.takeRecord_fits {s : State} {n : Fin 4} (hc : (s.chan n).Core) (hs : (s.chan n).state = .posting)
    (hholder : s.parb.holder ≠ .channel n) : (s.takeRecord n).Fits n := by
  obtain ⟨o, ho⟩ := Option.isSome_iff_exists.mp (hc.offer_posting.mpr hs)
  have hport : ((s.chan n).posted o).port = .none := by
    rw [Channel.posted_eq]
    exact hc.free_of_state (by simp [hs])
  simp only [State.takeRecord, ho]
  exact State.Loose.checkUnit
    (State.Loose.setFree (hc.posted hs o) hport ((s.chan n).posted_state_ne o) (by exact hholder))

theorem State.offerRecord_fits {s : State} {n : Fin 4} (hc : (s.chan n).Core) (hs : (s.chan n).state = .posting)
    (hholder : s.parb.holder ≠ .channel n) : (s.offerRecord n).Fits n := by
  unfold State.offerRecord
  split
  next => exact State.takeRecord_fits hc hs hholder
  next hfull =>
    have hport := hc.free_of_state (by simp [hs])
    exact ⟨Channel.ok_iff.mpr ⟨hc, Channel.settled_of_state (by simp [hs])⟩, fun _ => by omega,
      State.claimFails_of_no_claim (Channel.claims_of_free hport),
      iff_of_false hholder (by simp [Channel.granted_of_free hport])⟩

/-- Channel n posts a record for its head: DONE exactly with nothing left of it (R130). -/
theorem State.postHead_fits {s : State} {n : Fin 4} {d : Descriptor} {rest : List Descriptor} {status : Status}
    (hc : (s.chan n).Free) (hq : (s.chan n).queue = d :: rest) (hd : status = .done ↔ d.remaining = 0)
    (hholder : s.parb.holder ≠ .channel n) : (s.postHead n status).Fits n :=
  State.offerRecord_fits (by simpa using hc.post hq hd) (by simp [Channel.post_cons hq]) hholder

/-! ### The flush and the pending flags -/

theorem State.flushNow_fits {s : State} {n : Fin 4} (hholder : s.parb.holder ≠ .channel n) : (s.flushNow n).Fits n :=
  have h := State.Fits.setFree (s := s) (n := n) (Channel.ok_iff.mp (s.chan n).flushed_ok).1 rfl nofun nofun hholder
  ⟨h.ok, h.waits, h.passes, h.holder⟩

end Sys2Proof.Machine
end

section
/-! The commands on a channel keep the capacities, the sequence numbers and the channels in order
(chapters 7 and 8). -/
namespace Sys2Proof.Machine

theorem State.Keeps.setResult (s : State) (r : ResultCode) : State.Keeps s (s.setResult r) :=
  (State.PortOp.setResult s r).keeps

theorem State.Keeps.setChan {s : State} {n : Fin 4} {c : Channel} (hcap : (s.chan n).Cap → c.Cap)
    (hn : s.Fits n → (s.setChan n c).Fits n) : State.Keeps s (s.setChan n c) :=
  (State.Touches.setChan s hcap).keeps hn

theorem State.Keeps.setChan_checkUnit {s : State} {n : Fin 4} {c : Channel} (hcap : (s.chan n).Cap → c.Cap)
    (hn : s.Fits n → (s.setChan n c).Loose n) : State.Keeps s ((s.setChan n c).checkUnit n) :=
  ((State.Touches.setChan s hcap).trans (State.Touches.checkUnit _ n)).keeps fun h => (hn h).checkUnit

/-! ### Two kinds of update -/

/-- A new state, latch and overrun flag of a channel that makes no request and no offer. -/
theorem State.Fits.restate {s : State} {n : Fin 4} (h : s.Fits n) (hp : (s.chan n).port = .none)
    (hs : (s.chan n).state ≠ .posting) {st : ChanState} {latch overrun : Bool}
    (hl : (s.chan n).inUse.sense = .level → latch = false)
    (hfit : Channel.StateFits { s.chan n with state := st, latch := latch, overrun := overrun }) :
    (s.setChan n { s.chan n with state := st, latch := latch, overrun := overrun }).Loose n := by
  refine State.Loose.setFree (h.core.restate hp hs hl hfit) hp ?_
    (h.loose.not_holder (Channel.granted_of_free hp))
  rintro rfl
  exact hfit

theorem State.Fits.restate_fits {s : State} {n : Fin 4} (h : s.Fits n) (hp : (s.chan n).port = .none)
    (hs : (s.chan n).state ≠ .posting) {st : ChanState} {latch overrun : Bool} (hst : st ≠ .busy)
    (hl : (s.chan n).inUse.sense = .level → latch = false)
    (hfit : Channel.StateFits { s.chan n with state := st, latch := latch, overrun := overrun }) :
    (s.setChan n { s.chan n with state := st, latch := latch, overrun := overrun }).Fits n :=
  (h.restate hp hs hl hfit).fits (Channel.settled_of_state (by simpa using hst))

/-- An update that leaves the state, the port request and the head of a channel as they stand. -/
theorem State.Fits.amend {s : State} {n : Fin 4} {c : Channel} (h : s.Fits n) (hc : c.Core)
    (hstate : c.state = (s.chan n).state) (hport : c.port = (s.chan n).port)
    (hhead : (s.chan n).queue ≠ [] → c.queue.head? = (s.chan n).queue.head?) : (s.setChan n c).Loose n := by
  have hgranted : c.granted = (s.chan n).granted := by simp only [Channel.granted, hport]
  have hclaims : c.claims = (s.chan n).claims := by simp only [Channel.claims, hport]
  refine ⟨by simpa using hc, fun hp => h.waits ?_, ?_, ?_⟩
  · simpa [hstate] using hp
  · cases hcl : (s.chan n).claims with
    | false => exact State.claimFails_of_no_claim (by simp [hclaims, hcl])
    | true =>
      obtain ⟨limit, hlimit⟩ := Channel.claims_iff.mp hcl
      have hbusy : (s.chan n).state = .busy := h.core.request_busy (by simp [hlimit])
      have hfail := h.passes
      rw [State.claimFails_eq] at hfail ⊢
      simpa [State.waitingReport, hclaims, hhead (h.core.head (.inl hbusy))] using hfail
  · simpa [hgranted] using h.holder

/-! ### ENQ and START (R95, R96, R120) -/

/-- A descriptor that ENQ takes has something left to move (R95). -/
theorem DescStaging.descriptor_remaining {g : DescStaging} {d : Descriptor} (h : g.descriptor = some d) :
    d.remaining ≠ 0 := by
  unfold DescStaging.descriptor at h
  split at h
  next =>
    split at h
    next => cases h
    next hcnt =>
      cases h
      exact hcnt
  next => cases h

theorem Channel.Cap.enqueue {c : Channel} (h : c.Cap) (hroom : ¬ 8 ≤ c.queue.length) (d : Descriptor) :
    (c.queue ++ [d]).length ≤ 8 ∧ c.stored.Ok ∧ c.inUse.Ok :=
  ⟨by simp; omega, h.2⟩

theorem State.enqOn_keeps (s : State) (n : Fin 4) : State.Keeps s (s.enqOn n) := by
  unfold State.enqOn
  split
  next => exact State.Keeps.setResult s .badRecord
  next d hd =>
    have hleft := DescStaging.descriptor_remaining hd
    dsimp only
    split
    next => exact State.Keeps.setResult s .full
    next hroom =>
      split
      next hready =>
        refine (State.Keeps.setResult s .ok).trans
          (State.Keeps.setChan_checkUnit (fun h => h.enqueue hroom d) fun h => ?_)
        have hempty : (s.chan n).queue = [] := h.core.ready_empty hready
        have hposting : (s.chan n).state ≠ .posting := by simp [hready]
        have hp : (s.chan n).port = .none := h.core.free_of_state (by simp [hready])
        have hg := Channel.granted_of_free hp
        have hoffer : (s.chan n).offer = none := h.core.offer_none hposting
        refine State.Loose.setFree ?_ hp nofun (h.loose.not_holder hg)
        refine Channel.Free.core { h.core.free hp with offer_spells := ?_, tail_left := ?_ } ?_
          hoffer (h.core.no_hold hposting hg) ?_
        · simp [hoffer]
        · simp [hempty]
        · simp [Channel.StateFits]
        · simpa [hempty] using hleft
      next hready =>
        refine (State.Keeps.setResult s .ok).trans (State.Keeps.setChan (fun h => h.enqueue hroom d) fun h => ?_)
        have hhead (hne : (s.chan n).queue ≠ []) : ((s.chan n).queue ++ [d]).head? = (s.chan n).queue.head? :=
          List.head?_append_of_ne_nil _ hne
        refine (h.amend (h.core.enqueue hready hleft) rfl rfl hhead).fits ?_
        rw [State.chan_setChan_same]
        intro x hx hb hp
        exact h.settled x (hhead (h.core.head (.inl hb)) ▸ hx) hb hp

theorem State.startOn_keeps (s : State) (n : Fin 4) : State.Keeps s (s.startOn n) := by
  unfold State.startOn
  dsimp only
  split
  next hoff =>
    have hposting : (s.chan n).state ≠ .posting := by simp [hoff]
    have hfree (h : State.Fits (s.setResult .ok) n) : (s.chan n).port = .none :=
      h.core.free_of_state (by simp [hoff])
    split
    next hq =>
      refine (State.Keeps.setResult s .ok).trans (State.Keeps.setChan id fun h => ?_)
      exact h.restate_fits (hfree h) hposting nofun h.core.level_latch hq
    next hq =>
      refine (State.Keeps.setResult s .ok).trans (State.Keeps.setChan_checkUnit id fun h => ?_)
      exact h.restate (hfree h) hposting h.core.level_latch hq
  next => exact State.Keeps.setResult s .badState

/-! ### HOLD and RESUME (R121, R122) -/

theorem State.Keeps.setHold {s : State} {n : Fin 4}
    (hg : (s.chan n).granted = true ∨ (s.chan n).state = .posting) :
    State.Keeps s (s.setChan n { s.chan n with holdPending := true }) :=
  State.Keeps.setChan id fun h =>
    (h.amend (h.core.setHold hg) rfl rfl fun _ => rfl).fits (by rw [State.chan_setChan_same]; exact h.settled)

theorem State.holdOn_keeps (s : State) (n : Fin 4) : State.Keeps s (s.holdOn n) := by
  unfold State.holdOn
  dsimp only
  split
  next hready =>
    refine (State.Keeps.setResult s .ok).trans (State.Keeps.setChan id fun h => ?_)
    have hp : (s.chan n).port = .none := h.core.free_of_state (by simp [hready])
    exact h.restate_fits hp (by simp [hready]) nofun h.core.level_latch trivial
  next hbusy =>
    split
    next hg => exact (State.Keeps.setResult s .ok).trans (State.Keeps.setHold (.inl hg))
    next hg =>
      refine (State.Keeps.setResult s .ok).trans (State.Keeps.setChan Channel.Cap.release fun h => ?_)
      have hng : (s.chan n).granted = false := by simpa using hg
      have hposting : (s.chan n).state ≠ .posting := by simp [hbusy]
      refine State.Fits.setFree ?_ rfl nofun nofun (h.loose.not_holder hng)
      exact h.core.leave hposting (h.core.no_flush hng) (h.core.no_hold hposting hng) trivial
  next hposting => exact (State.Keeps.setResult s .ok).trans (State.Keeps.setHold (.inr hposting))
  all_goals exact State.Keeps.setResult s .badState

theorem Channel.retryLatch_level {c : Channel} (h : c.inUse.sense = .level) (hl : c.latch = false) :
    c.retryLatch = false := by
  unfold Channel.retryLatch
  split
  · simp [h, hl]
  · exact hl

theorem State.resumeOn_keeps (s : State) (n : Fin 4) : State.Keeps s (s.resumeOn n) := by
  unfold State.resumeOn
  dsimp only
  split
  next hheld =>
    have hposting : (s.chan n).state ≠ .posting := by simp [hheld]
    have hfree (h : State.Fits (s.setResult .ok) n) : (s.chan n).port = .none :=
      h.core.free_of_state (by simp [hheld])
    split
    next hq =>
      refine (State.Keeps.setResult s .ok).trans (State.Keeps.setChan id fun h => ?_)
      exact h.restate_fits (hfree h) hposting nofun h.core.level_latch hq
    next hq =>
      refine (State.Keeps.setResult s .ok).trans (State.Keeps.setChan_checkUnit id fun h => ?_)
      exact h.restate (hfree h) hposting h.core.level_latch hq
  next hfaulted =>
    refine (State.Keeps.setResult s .ok).trans (State.Keeps.setChan_checkUnit id fun h => ?_)
    have hq : (s.chan n).queue ≠ [] := h.core.head (.inr (.inl hfaulted))
    exact h.restate (h.core.free_of_state (by simp [hfaulted])) (by simp [hfaulted])
      (fun hlevel => Channel.retryLatch_level hlevel (h.core.level_latch hlevel)) hq
  all_goals exact State.Keeps.setResult s .badState

/-! ### SKIP and FLUSH (R123, R124) -/

/-- A channel in HELD or FAULTED posts its head as ABORTED. -/
theorem State.Keeps.abort {s : State} {n : Fin 4} (hs : (s.chan n).state = .faulted ∨ (s.chan n).state = .held)
    (hq : (s.chan n).state = .held → (s.chan n).queue ≠ []) : State.Keeps s (s.postHead n .aborted) := by
  refine (State.Touches.postHead s n .aborted).keeps fun h => ?_
  have hbusy : (s.chan n).state ≠ .busy := by rcases hs with hs | hs <;> simp [hs]
  have hposting : (s.chan n).state ≠ .posting := by rcases hs with hs | hs <;> simp [hs]
  have hne : (s.chan n).queue ≠ [] := by
    rcases hs with hs | hs
    · exact h.core.head (.inr (.inl hs))
    · exact hq hs
  have hp := h.core.free_of_state hbusy
  obtain ⟨d, rest, hcons⟩ := List.exists_cons_of_ne_nil hne
  have hleft : d.remaining ≠ 0 := h.core.left hposting d (by simp [hcons])
  exact State.postHead_fits (h.core.free hp) hcons (by simpa using hleft)
    (h.loose.not_holder (Channel.granted_of_free hp))

theorem State.skipOn_keeps (s : State) (n : Fin 4) : State.Keeps s (s.skipOn n) := by
  unfold State.skipOn
  dsimp only
  split
  next hfaulted =>
    exact (State.Keeps.setResult s .ok).trans (State.Keeps.abort (.inl hfaulted) fun hheld => by simp_all)
  next hheld =>
    split
    next => exact State.Keeps.setResult s .empty
    next hq => exact (State.Keeps.setResult s .ok).trans (State.Keeps.abort (.inr hheld) fun _ => hq)
  all_goals exact State.Keeps.setResult s .badState

theorem State.flushOn_keeps (s : State) (n : Fin 4) : State.Keeps s (s.flushOn n) := by
  unfold State.flushOn
  dsimp only
  split
  next hg =>
    refine (State.Keeps.setResult s .ok).trans (State.Keeps.setChan id fun h => ?_)
    refine (h.amend (h.core.setFlush hg) rfl rfl fun _ => rfl).fits ?_
    rw [State.chan_setChan_same]
    exact h.settled
  next hg =>
    refine (State.Keeps.setResult s .ok).trans ((State.Touches.flushNow _ n).keeps fun h => ?_)
    exact State.flushNow_fits (h.loose.not_holder (by simpa using hg))

theorem State.channelStrobe_keeps {f : State → Fin 4 → State} (s : State) (data : Byte)
    (hf : ∀ n, State.Keeps s (f s n)) : State.Keeps s (s.channelStrobe data f) := by
  unfold State.channelStrobe
  split
  · exact State.Keeps.setResult s .badIndex
  · exact hf _

/-! ### The configuration and the pending flags (R103, R104, R125) -/

/-- CHCFG takes burst limits from 1 to 16 alone (R103). -/
theorem chcfgOf_ok {data : Byte} {cfg : ChanConfig} (h : chcfgOf data = some cfg) : cfg.Ok := by
  unfold chcfgOf at h
  dsimp only at h
  split at h
  next hb =>
    cases h
    exact hb
  next => cases h

theorem Channel.adopt_state (c : Channel) : c.adopt.state = c.state := by
  unfold Channel.adopt
  split <;> rfl

theorem Channel.adopt_port (c : Channel) : c.adopt.port = c.port := by
  unfold Channel.adopt
  split <;> rfl

theorem Channel.adopt_queue (c : Channel) : c.adopt.queue = c.queue := by
  unfold Channel.adopt
  split <;> rfl

theorem State.writeChcfg_keeps (s : State) (data : Byte) : State.Keeps s (s.writeChcfg data) := by
  unfold State.writeChcfg
  split
  next => exact State.Keeps.refl s
  next cfg hcfg =>
    refine State.Keeps.setChan_checkUnit (fun h => Channel.Cap.adopt ⟨h.1, chcfgOf_ok hcfg, h.2.2⟩) fun h => ?_
    exact h.amend (h.core.configure cfg) (Channel.adopt_state _) (Channel.adopt_port _) fun _ => by
      rw [Channel.adopt_queue]

theorem execConfigurationInUse_keeps (n : Fin 4) (s : State) :
    ∃ t, execConfigurationInUse n s = .next t ∧ State.Keeps s t := by
  unfold execConfigurationInUse
  split
  next hdue =>
    refine ⟨_, rfl, State.Keeps.setChan_checkUnit Channel.Cap.adopt fun h => ?_⟩
    exact absurd (h.core.free_config hdue.1) hdue.2
  next => exact ⟨s, rfl, State.Keeps.refl s⟩

theorem execPendingFlagsActed_keeps (n : Fin 4) (s : State) :
    ∃ t, execPendingFlagsActed n s = .next t ∧ State.Keeps s t := by
  unfold execPendingFlagsActed
  split
  next hdue =>
    refine ⟨_, rfl, (State.Touches.actPending s n).keeps fun h => ?_⟩
    have hg := Channel.granted_of_free hdue.2
    have hflush := h.core.no_flush hg
    have hhold := h.core.no_hold (by simp [hdue.1]) hg
    simpa [State.actPending, hflush, hhold] using h
  next => exact ⟨s, rfl, State.Keeps.refl s⟩

/-! ### The request line (R114 to R116) -/

theorem Channel.release_claims (c : Channel) : c.release.claims = false := by rfl

theorem Channel.release_granted (c : Channel) : c.release.granted = false := by rfl

/-- Under LEVEL sense a line that goes inactive meets no pacing condition. -/
theorem Channel.Settled.lower {c : Channel} (h : c.Settled) : Channel.Settled { c with trq := false } := by
  intro d hd hb hp
  have hc := h d hd hb hp
  cases hpace : d.pacing <;> cases hsense : c.inUse.sense <;> simp_all [Channel.pacingHolds]

/-- Under EDGE sense no pacing condition is about the level of the line. -/
theorem Channel.Settled.edge {c : Channel} (h : c.Settled) (hsense : c.inUse.sense = .edge) (level : Bool) :
    Channel.Settled { c with trq := level } := by
  intro d hd hb hp
  have hc := h d hd hb hp
  cases hpace : d.pacing <;> simp_all [Channel.pacingHolds]

theorem Channel.granted_of_claims {c : Channel} (h : c.claims = true) : c.granted = false := by
  obtain ⟨limit, hlimit⟩ := Channel.claims_iff.mp h
  simp [Channel.granted, hlimit]

theorem Channel.Core.busy_of_claims {c : Channel} (h : c.Core) (hc : c.claims = true) : c.state = .busy := by
  obtain ⟨limit, hlimit⟩ := Channel.claims_iff.mp hc
  exact h.request_busy (by simp [hlimit])

/-- The claim of a BUSY channel is withdrawn, and R108 has to check it again. -/
theorem State.Fits.withdraw {s : State} {n : Fin 4} {c : Channel} (h : s.Fits n) (hc : c.Core)
    (hport : c.port = (s.chan n).port) (hclaims : c.claims = true) : (s.setChan n c.release).Loose n := by
  have hbusy := hc.busy_of_claims hclaims
  have hposting : c.state ≠ .posting := by simp [hbusy]
  have hg := Channel.granted_of_claims hclaims
  refine State.Loose.setFree ?_ rfl hposting (h.loose.not_holder ?_)
  · exact Channel.Free.core (hc.release_free (hc.no_flush hg))
      (by simpa [Channel.StateFits, hbusy] using hc.head (.inl hbusy)) (hc.offer_none hposting)
      (hc.no_hold hposting hg) (hc.left hposting)
  · simpa only [Channel.granted, hport] using hg

theorem execTrqDeassert_keeps (n : Fin 4) (s : State) :
    ∃ t, execTrqDeassert n s = .next t ∧ State.Keeps s t := by
  unfold execTrqDeassert
  dsimp only
  split
  next hdue =>
    obtain ⟨hlevel, hclaims, hpaced⟩ := hdue
    refine ⟨_, rfl, State.Keeps.setChan_checkUnit (fun h => Channel.Cap.release (by exact h)) fun h => ?_⟩
    exact h.withdraw (h.core.line false) rfl hclaims
  next =>
    refine ⟨_, rfl, State.Keeps.setChan id fun h => ?_⟩
    refine (h.amend (h.core.line false) rfl rfl fun _ => rfl).fits ?_
    rw [State.chan_setChan_same]
    exact h.settled.lower

/-! ### The end of a grant -/

/-- From `s` to `t` the capacities and the sequence numbers stay in order. -/
structure State.Counts (s t : State) : Prop where
  capacity : s.CapacityOk → t.CapacityOk
  sequence : s.SequenceOk → t.SequenceOk

theorem State.Counts.trans {s t u : State} (h : State.Counts s t) (k : State.Counts t u) : State.Counts s u :=
  ⟨k.capacity ∘ h.capacity, k.sequence ∘ h.sequence⟩

theorem State.Touches.counts {n : Fin 4} {s t : State} (h : State.Touches n s t) : State.Counts s t :=
  ⟨h.capacity, h.sequence⟩

theorem State.Touches.keeps_of_fits {n : Fin 4} {s t : State} (hcounts : State.Counts s t)
    (h : s.Fits n → State.Touches n s t ∧ t.Fits n) : State.Keeps s t where
  capacity := hcounts.capacity
  sequence := hcounts.sequence
  channels hs :=
    have ⟨htouches, hn⟩ := h (State.channelsOk_iff.mp hs n)
    (htouches.keeps fun _ => hn).channels hs

/-- With the grant of channel n, PARB comes to name no channel. -/
theorem State.Touches.giveUp {s : State} {n : Fin 4} (hholder : s.parb.holder = .channel n) {x : Holder}
    (hx : ∀ m, x ≠ .channel m) (op : Option Operation) {e : Nat} (he : e ≤ s.mseq.extension) :
    State.Touches n s { s with parb := { s.parb with holder := x },
                               mseq := { s.mseq with op := op, extension := e } } where
  regions := rfl
  holder m hm := iff_of_false (hx m) (by simpa [hholder] using hm.symm)
  other _ _ := rfl
  capacity hs := by
    obtain ⟨hchan, hclog, hflush, hflog, hdebt, hurg, hext⟩ := State.capacityOk_iff.mp hs
    exact State.capacityOk_iff.mpr ⟨hchan, hclog, hflush, hflog, hdebt, hurg, he.trans hext⟩
  sequence := id
  log := le_rfl

theorem State.giveUpGrant_cases (s : State) :
    (s.giveUpGrant = { s with parb := { s.parb with holder := .residual } } ∧ s.mseq.op ≠ none) ∨
    (s.giveUpGrant = s.endGrant ∧ s.mseq.op = none) := by
  unfold State.giveUpGrant
  split
  next h => exact .inl ⟨rfl, by simp [h]⟩
  next h => exact .inr ⟨rfl, h⟩

theorem State.Touches.endGrant {s : State} {n : Fin 4} (hholder : s.parb.holder = .channel n) :
    State.Touches n s s.endGrant :=
  State.Touches.giveUp hholder (by simp) none (Nat.zero_le _)

theorem State.Touches.giveUpGrant {s : State} {n : Fin 4} (hholder : s.parb.holder = .channel n) :
    State.Touches n s s.giveUpGrant := by
  rcases s.giveUpGrant_cases with ⟨h, -⟩ | ⟨h, -⟩ <;> rw [h]
  · exact State.Touches.giveUp hholder (by simp) s.mseq.op le_rfl
  · exact State.Touches.endGrant hholder

theorem State.Counts.giveUpGrant (s : State) : State.Counts s s.giveUpGrant where
  capacity hs := by
    obtain ⟨hchan, hclog, hflush, hflog, hdebt, hurg, hext⟩ := State.capacityOk_iff.mp hs
    rcases s.giveUpGrant_cases with ⟨h, -⟩ | ⟨h, -⟩ <;> rw [h] <;> refine State.capacityOk_iff.mpr ?_
    · exact ⟨hchan, hclog, hflush, hflog, hdebt, hurg, hext⟩
    · exact ⟨hchan, hclog, hflush, hflog, hdebt, hurg, Nat.zero_le _⟩
  sequence hs := by
    rcases s.giveUpGrant_cases with ⟨h, -⟩ | ⟨h, -⟩ <;> rw [h] <;> exact hs

@[simp] theorem State.giveUpGrant_txe (s : State) : s.giveUpGrant.txe = s.txe := by
  rcases s.giveUpGrant_cases with ⟨h, -⟩ | ⟨h, -⟩ <;> simp [h]

theorem State.giveUpGrant_holder (s : State) (m : Fin 4) : s.giveUpGrant.parb.holder ≠ .channel m := by
  rcases s.giveUpGrant_cases with ⟨h, -⟩ | ⟨h, -⟩ <;> rw [h] <;> simp

/-- The channel after an overrun that faults it: its claim or its grant is lost (R115). -/
theorem Channel.Core.overrun {c : Channel} (h : c.Core) (hb : c.state = .busy) (hf : c.flushPending = false) :
    Channel.Core { Channel.release { c with overrun := true } with state := .faulted, holdPending := false } :=
  (h.setOverrun (by simp [hb])).leave (by simp [hb]) hf rfl (h.head (.inl hb))

theorem State.overrunOn_keeps {s : State} {n : Fin 4} (hs : (s.chan n).state ≠ .off) :
    State.Keeps s (s.overrunOn n) := by
  unfold State.overrunOn
  dsimp only
  generalize hu : s.fileFault _ = u
  have hreport : State.Keeps s u := hu ▸ (State.PortOp.fileFault s _).keeps
  have hchan : s.chan n = u.chan n := by rw [← hu, State.chan_fileFault]
  refine hreport.trans ?_
  rw [hchan] at hs ⊢
  split
  next hfaults =>
    obtain ⟨hb, hf⟩ := hfaults
    split
    next hg =>
      have hset := State.Touches.setChan u.giveUpGrant (n := n)
        (c := { Channel.release { u.chan n with overrun := true } with state := .faulted, holdPending := false })
        fun h => Channel.Cap.release (c := { u.chan n with overrun := true }) (by simpa [State.chan] using h)
      refine State.Touches.keeps_of_fits (n := n) ((State.Counts.giveUpGrant u).trans hset.counts) fun h => ?_
      exact ⟨(State.Touches.giveUpGrant (h.holder.mpr hg)).trans hset,
        State.Fits.setFree (h.core.overrun hb hf) rfl nofun nofun (State.giveUpGrant_holder u n)⟩
    next hg =>
      refine State.Keeps.setChan Channel.Cap.release fun h => ?_
      have hng : (u.chan n).granted = false := Bool.eq_false_iff.mpr hg
      exact State.Fits.setFree (h.core.overrun hb hf) rfl nofun nofun (h.loose.not_holder hng)
  next hstays =>
    refine State.Keeps.setChan id fun h => ?_
    refine (h.amend (h.core.setOverrun hs) rfl rfl fun _ => rfl).fits ?_
    rw [State.chan_setChan_same]
    exact h.settled

theorem State.trqEdge_keeps (s : State) (n : Fin 4) : State.Keeps s (s.trqEdge n) := by
  unfold State.trqEdge
  dsimp only
  split
  next hedge =>
    have hline : State.Keeps s (s.setChan n { s.chan n with trq := true }) := State.Keeps.setChan id fun h =>
      (h.amend (h.core.line true) rfl rfl fun _ => rfl).fits (by
        rw [State.chan_setChan_same]
        exact h.settled.edge hedge true)
    split
    next hlatches =>
      have hoff : (s.chan n).state ≠ .off := fun hoff => by simp [hoff, ChanState.latches] at hlatches
      split
      next => exact hline.trans (State.overrunOn_keeps (by simpa using hoff))
      next =>
        rw [State.setChan_setChan]
        refine State.Keeps.setChan_checkUnit id fun h => ?_
        exact h.amend (h.core.setLatch hoff hedge) rfl rfl fun _ => rfl
    next => exact hline
  next =>
    refine State.Keeps.setChan_checkUnit id fun h => ?_
    exact h.amend (h.core.line true) rfl rfl fun _ => rfl

end Sys2Proof.Machine
end

section
/-! The operations of the memory port, of the processor bus and of the refresh controller leave the channels and the
Completion Log as they stand (chapters 3 to 6). -/
namespace Sys2Proof.Machine

/-! ### The memory sequencer -/

/-- A change of MSEQ, of PARB's channel neither before nor after, of the RPC within its ranges, or of the registers
that no capacity counts. -/
theorem State.PortOp.of_frame {s t : State} (htxe : t.txe = s.txe) (hclog : t.clog = s.clog) (hflog : t.flog = s.flog)
    (hrgd : t.rgd = s.rgd) (hholder : ∀ m, t.parb.holder = .channel m ↔ s.parb.holder = .channel m)
    (hdebt : s.rpc.debt ≤ 8 → t.rpc.debt ≤ 8) (hurg : t.rpc.rfurg = s.rpc.rfurg)
    (hext : s.mseq.extension ≤ 256 → t.mseq.extension ≤ 256) : State.PortOp s t where
  regions := by rw [hrgd]
  holder := hholder
  chans := by rw [htxe]
  flushn := by rw [htxe]
  clog := hclog
  counts := fun ⟨h1, h2, h3, h4⟩ => ⟨hflog ▸ h1, hdebt h2, hurg ▸ h3, hext h4⟩

theorem State.PortOp.startOp (s : State) (w : Work) (k : OpKind) : State.PortOp s (s.startOp w k) :=
  .of_frame rfl rfl rfl rfl (fun _ => Iff.rfl) id rfl fun _ => Nat.zero_le _

theorem State.PortOp.beginWork (s : State) (w : Work) : State.PortOp s (s.beginWork w) := by
  unfold State.beginWork
  split
  · exact .startOp s w _
  · exact .refl s

theorem State.PortOp.idleMseq (s : State) : State.PortOp s s.idleMseq :=
  .of_frame rfl rfl rfl rfl (fun _ => Iff.rfl) id rfl fun _ => Nat.zero_le _

theorem State.PortOp.setRecord (s : State) (r : Option OpenRow) : State.PortOp s (s.setRecord r) :=
  .of_frame rfl rfl rfl rfl (fun _ => Iff.rfl) id rfl id

/-- The grant passes between holders of which none is a channel. -/
theorem State.PortOp.setHolder {s : State} (hs : ∀ m, s.parb.holder ≠ .channel m) {x : Holder}
    (hx : ∀ m, x ≠ .channel m) : State.PortOp s { s with parb := { s.parb with holder := x } } :=
  .of_frame rfl rfl rfl rfl (fun m => iff_of_false (hx m) (hs m)) id rfl id

theorem State.PortOp.endGrant {s : State} (hs : ∀ m, s.parb.holder ≠ .channel m) : State.PortOp s s.endGrant :=
  .of_frame rfl rfl rfl rfl (fun m => iff_of_false (by simp) (hs m)) id rfl fun _ => Nat.zero_le _

theorem State.PortOp.pbi (s : State) (p : Pbi) : State.PortOp s { s with pbi := p } :=
  .of_frame rfl rfl rfl rfl (fun _ => Iff.rfl) id rfl id

/-! ### Parking and waking -/

theorem State.PortOp.startWake (s : State) (cause : WakeCause) : State.PortOp s (s.startWake cause) :=
  .of_frame rfl rfl rfl rfl (fun _ => Iff.rfl) id rfl fun _ => Nat.zero_le _

theorem State.PortOp.enterParked (s : State) : State.PortOp s s.enterParked := by
  have hparked : State.PortOp s { s.idleMseq with
      rpc := { s.rpc with portState := .parked, parkStep := false, sref := true }
      iru := { s.iru with port := true } } :=
    .of_frame rfl rfl rfl rfl (fun _ => Iff.rfl) id rfl fun _ => Nat.zero_le _
  unfold State.enterParked
  dsimp only
  split
  · exact hparked.trans (.startWake _ _)
  · exact hparked

theorem State.PortOp.beginParkStep (s : State) : State.PortOp s s.beginParkStep := by
  have hstep : State.PortOp s { s with rpc := { s.rpc with parkStep := true, timer := none } } :=
    .of_frame rfl rfl rfl rfl (fun _ => Iff.rfl) id rfl id
  unfold State.beginParkStep
  dsimp only
  split
  · exact hstep.trans (.beginWork _ _)
  · split
    · exact hstep.trans (.startOp _ _ _)
    · exact hstep.trans (.enterParked _)

theorem State.PortOp.park (s : State) : State.PortOp s s.park := by
  unfold State.park
  split
  next =>
    have hdraining : State.PortOp s
        (State.setResult { s with rpc := { s.rpc with portState := .draining } } .ok) :=
      .of_frame rfl rfl rfl rfl (fun _ => Iff.rfl) id rfl id
    dsimp only
    split
    · exact hdraining.trans (.beginParkStep _)
    · exact hdraining
  all_goals exact .setResult s _

theorem State.PortOp.wake (s : State) : State.PortOp s s.wake := by
  unfold State.wake
  split
  next => exact (State.PortOp.setResult s .ok).trans (.startWake _ _)
  all_goals exact .setResult s _

theorem State.PortOp.finishWake (s : State) : State.PortOp s s.finishWake :=
  .of_frame rfl rfl rfl rfl (fun _ => Iff.rfl) id rfl fun _ => Nat.zero_le _

/-! ### The interval timer and the debt -/

theorem State.PortOp.expire (s : State) : State.PortOp s s.expire := by
  unfold State.expire
  dsimp only
  split
  next hroom => exact .of_frame rfl rfl rfl rfl (fun _ => Iff.rfl) (fun _ => hroom) rfl id
  next => exact .of_frame rfl rfl rfl rfl (fun _ => Iff.rfl) id rfl id

theorem State.PortOp.finishRefresh {s : State} (hs : ∀ m, s.parb.holder ≠ .channel m) :
    State.PortOp s s.finishRefresh :=
  .of_frame rfl rfl rfl rfl (fun m => iff_of_false (by simp [State.finishRefresh]) (hs m))
    (fun h => (Nat.sub_le _ _).trans h) rfl fun _ => Nat.zero_le _

theorem State.PortOp.writeRfint (s : State) (high : Bool) (data : Byte) :
    State.PortOp s (s.writeRfint high data) :=
  .of_frame rfl rfl rfl rfl (fun _ => Iff.rfl) id rfl id

/-- RFURG takes 1 to 8 alone (R80). -/
theorem State.PortOp.writeRfurg (s : State) (data : Byte) : State.PortOp s (s.writeRfurg data) := by
  unfold State.writeRfurg
  split
  next hdata => exact ⟨rfl, fun _ => Iff.rfl, rfl, rfl, rfl, fun ⟨h1, h2, _, h4⟩ => ⟨h1, h2, hdata, h4⟩⟩
  next => exact .refl s

/-! ### The processor's cycles -/

theorem State.PortOp.releaseProcessor (s : State) (c : CycleRecord) : State.PortOp s (s.releaseProcessor c) := by
  unfold State.releaseProcessor
  split <;> exact .pbi s _

theorem State.PortOp.faultCycle (s : State) (c : CycleRecord) (kind : FaultKind) :
    State.PortOp s (s.faultCycle c kind) :=
  (State.PortOp.fileFault s _).trans (.releaseProcessor _ _)

theorem State.PortOp.newCycle (s : State) : State.PortOp s s.newCycle := by
  rw [s.newCycle_eq]
  exact .pbi s _

theorem State.PortOp.endCycle (s : State) : State.PortOp s s.endCycle := by
  unfold State.endCycle
  split <;> exact .pbi s _

theorem State.PortOp.standAside (s : State) (c : Option CycleRecord) : State.PortOp s (s.standAside c) := by
  unfold State.standAside
  split <;> exact .pbi s _

theorem State.PortOp.raiseClaim (s : State) (c : CycleRecord) : State.PortOp s (s.raiseClaim c) := by
  unfold State.raiseClaim
  dsimp only
  split
  · exact (State.PortOp.pbi s _).trans (.startWake _ _)
  · exact .pbi s _

theorem State.PortOp.lookUpCycle (s : State) (pins : BusPins) : State.PortOp s (s.lookUpCycle pins) := by
  rcases State.lookUpCycle_cases s.wtu s.rgd.regions pins with ⟨c, h⟩ | ⟨c, kind, h⟩ | ⟨dir, pa, n, _, h⟩ <;>
    rw [h s rfl rfl]
  · exact .standAside s c
  · exact .faultCycle s c kind
  · exact .raiseClaim s _

theorem State.PortOp.beginMemoryCycle (s : State) (pins : BusPins) : State.PortOp s (s.beginMemoryCycle pins) := by
  have hcycle := (State.PortOp.newCycle s).trans
    (State.PortOp.pbi s.newCycle { s.newCycle.pbi with memc := true })
  unfold State.beginMemoryCycle
  dsimp only
  split
  · exact .refl s
  · split
    · exact hcycle.trans (.lookUpCycle _ pins)
    · exact (State.PortOp.newCycle s).trans (.pbi _ _)

theorem State.PortOp.finishAccess {s : State} (hs : ∀ m, s.parb.holder ≠ .channel m) (md : Byte) :
    State.PortOp s (s.finishAccess md) := by
  unfold State.finishAccess
  split
  · exact (State.PortOp.endGrant hs).trans (.releaseProcessor _ _)
  · exact .endGrant hs

/-! ### Rows -/

theorem State.PortOp.finishRowOpen (s : State) (w : Work) (a : Access) : State.PortOp s (s.finishRowOpen w a) := by
  unfold State.finishRowOpen
  dsimp only
  split
  next hres => exact (State.PortOp.setRecord s _).trans (.endGrant (by simp [hres]))
  next => exact (State.PortOp.setRecord s _).trans (.startOp _ _ _)

theorem State.PortOp.finishRowClose (s : State) (w : Work) : State.PortOp s (s.finishRowClose w) := by
  unfold State.finishRowClose
  dsimp only
  split
  next hres => exact (State.PortOp.setRecord s _).trans (.endGrant (by simp [hres]))
  next =>
    split
    · exact (State.PortOp.setRecord s _).trans (.enterParked _)
    · exact (State.PortOp.setRecord s _).trans (.beginWork _ _)

end Sys2Proof.Machine
end

section
/-! The grants and the ends of a unit keep the capacities, the sequence numbers and the channels in order (chapters 4,
5 and 8). -/
namespace Sys2Proof.Machine

theorem State.PortOp.fits {s t : State} (h : State.PortOp s t) {n : Fin 4} (hs : s.Fits n) : t.Fits n :=
  have hc := State.chan_of_chans h.chans n
  ⟨hc ▸ hs.ok, fun hp => h.clog ▸ hs.waits (hc ▸ hp), (State.claimFails_congr hc h.regions).trans hs.passes,
    (h.holder n).trans (hc ▸ hs.holder)⟩

/-- A channel with neither claim nor grant, which PARB does not name. -/
theorem State.Fits.of_free {s : State} {n : Fin 4} (hc : (s.chan n).Core) (hport : (s.chan n).port = .none)
    (hb : (s.chan n).state ≠ .busy) (hs : (s.chan n).state ≠ .posting) (hholder : s.parb.holder ≠ .channel n) :
    s.Fits n :=
  s.setChan_chan n ▸ State.Fits.setFree hc hport hb hs hholder

theorem State.Loose.of_free {s : State} {n : Fin 4} (hc : (s.chan n).Core) (hport : (s.chan n).port = .none)
    (hs : (s.chan n).state ≠ .posting) (hholder : s.parb.holder ≠ .channel n) : s.Loose n :=
  s.setChan_chan n ▸ State.Loose.setFree hc hport hs hholder

/-! ### Grants (R48, R52) -/

theorem State.PortOp.grantRefresh {s : State} (hs : s.parb.holder = .none) : State.PortOp s s.grantRefresh :=
  (State.PortOp.setHolder (x := .refresh) (by simp [hs]) (by simp)).trans (.beginWork _ _)

theorem State.PortOp.grantProcessor {s : State} (hs : s.parb.holder = .none) : State.PortOp s s.grantProcessor := by
  have haccess : State.PortOp s { s with parb := { s.parb with holder := .processor },
                                         pbi := { s.pbi with phase := .access } } :=
    .of_frame rfl rfl rfl rfl (fun m => iff_of_false (by simp) (by simp [hs])) id rfl id
  unfold State.grantProcessor
  split
  · exact .refl s
  · split
    · exact haccess.trans (.beginWork _ _)
    · exact .refl s

/-- With the port free, PARB names channel n. -/
theorem State.Touches.grant {s : State} (hs : s.parb.holder = .none) (n pointer : Fin 4) :
    State.Touches n s { s with parb := { s.parb with holder := .channel n, pointer := pointer } } where
  regions := rfl
  holder m hm := iff_of_false (by simpa using hm.symm) (by simp [hs])
  other _ _ := rfl
  capacity := id
  sequence := id
  log := le_rfl

theorem State.grantChannel_keeps {s : State} (hs : s.parb.holder = .none) (n : Fin 4) :
    State.Keeps s (s.grantChannel n) := by
  unfold State.grantChannel
  dsimp only
  split
  next limit d rest hport hq =>
    split
    next src dst hv =>
      have hunit := State.PortOp.beginWork
        (State.setChan { s with parb := { s.parb with holder := .channel n, pointer := n } } n
          ((s.chan n).take d limit))
        (.unitRead n (captureAccess s.rgd.regions .read d.curSrc src)
          (captureAccess s.rgd.regions .write d.curDst dst))
      refine State.Touches.keeps (n := n)
        (((State.Touches.grant hs n n).trans (State.Touches.setChan _ (c := (s.chan n).take d limit) id)).trans
          (hunit.touches n)) fun h => ?_
      refine hunit.fits ?_
      have hcore : ((s.chan n).take d limit).Core := h.core.take hq hport
      refine State.Fits.setChan (Channel.ok_iff.mpr ⟨hcore, Channel.settled_of_port nofun⟩) ?_ rfl
        (iff_of_true rfl rfl)
      have hbusy : ((s.chan n).take d limit).state = .busy := hcore.request_busy nofun
      simp [hbusy]
    next kind dir addr hv =>
      refine (State.Touches.failUnit s n kind dir addr).keeps fun h => ?_
      have hclaims : (s.chan n).claims = true := Channel.claims_iff.mpr ⟨limit, hport⟩
      exact State.failUnit_fits h.core (h.core.busy_of_claims hclaims) (Channel.granted_of_claims hclaims)
        (by simp [hs]) kind dir addr
  next => exact .refl s

theorem State.grantDecision_keeps (s : State) : State.Keeps s s.grantDecision := by
  unfold State.grantDecision
  split
  next hs =>
    split
    · exact (State.PortOp.grantRefresh hs).keeps
    · exact (State.PortOp.grantProcessor hs).keeps
    · exact State.grantChannel_keeps hs _
    · exact .refl s
  next => exact .refl s

theorem Channel.Core.busy_of_granted {c : Channel} (h : c.Core) (hg : c.granted = true) : c.state = .busy := by
  obtain ⟨limit, moved, hport⟩ := Channel.granted_iff.mp hg
  exact h.request_busy (by simp [hport])

/-! ### The halves of a unit (R63, R110) -/

/-- The WRITE half begins: TEND is settled, and nothing else changes (R117). -/
theorem Channel.beginWrite_eq (c : Channel) : ∃ tend, c.beginWrite = { c with tend := tend } := by
  unfold Channel.beginWrite
  split
  · exact ⟨_, rfl⟩
  · exact ⟨c.tend, rfl⟩

theorem State.finishRead_keeps {s : State} {n : Fin 4} (hholder : s.parb.holder = .channel n) (dst : Access)
    (md : Byte) : State.Keeps s (s.finishRead n dst md) := by
  unfold State.finishRead
  obtain ⟨tend, htend⟩ := (s.chan n).beginWrite_eq
  rw [htend]
  refine State.Keeps.trans (t := s.setChan n { s.chan n with tend := tend })
    (State.Keeps.setChan id fun h => ?_) (State.PortOp.beginWork _ _).keeps
  have hg := h.holder.mp hholder
  obtain ⟨limit, moved, hport⟩ := Channel.granted_iff.mp hg
  refine (h.amend (h.core.setTend hg tend) rfl rfl fun _ => rfl).fits ?_
  rw [State.chan_setChan_same]
  exact Channel.settled_of_port (by simp [hport])

/-- The channel of a unit that has ended, its grant gone: the head has advanced (R101, R110). -/
theorem Channel.Core.unitDone {c : Channel} (h : c.Core) (hg : c.granted = true) {d : Descriptor}
    {rest : List Descriptor} (hq : c.queue = d :: rest) (hf : c.flushPending = false) :
    (Channel.release { c with queue := d.advance :: rest }).Free := by
  have hoffer := h.offer_none (by simp [h.busy_of_granted hg])
  have htail := h.tail_left
  rw [hq] at htail
  exact { h.release_free hf with
    offer_spells := by simp [hoffer]
    tail_left := htail }

theorem State.actPending_of_flush {s : State} {n : Fin 4} (h : (s.chan n).flushPending = true) :
    s.actPending n = s.flushNow n := by
  simp only [State.actPending, h, if_true]

theorem State.actPending_of_hold {s : State} {n : Fin 4} {d : Descriptor} {rest : List Descriptor}
    (hf : (s.chan n).flushPending = false) (hh : (s.chan n).holdPending = true) (hq : (s.chan n).queue = d :: rest) :
    s.actPending n =
      if d.remaining = 0 then s.postHead n .done
      else s.setChan n { s.chan n with state := .held, holdPending := false } := by
  simp [State.actPending, hf, hh, hq]

/-- The state in which the grant of channel n has ended with its head advanced (R101, R110). -/
def State.unitEnded (s : State) (n : Fin 4) (d : Descriptor) (rest : List Descriptor) : State :=
  s.endGrant.setChan n (Channel.release { s.chan n with queue := d.advance :: rest })

theorem State.unitEnded_chan (s : State) (n : Fin 4) (d : Descriptor) (rest : List Descriptor) :
    (s.unitEnded n d rest).chan n = Channel.release { s.chan n with queue := d.advance :: rest } :=
  s.endGrant.chan_setChan_same n _

theorem State.unitEnded_queue (s : State) (n : Fin 4) (d : Descriptor) (rest : List Descriptor) :
    ((s.unitEnded n d rest).chan n).queue = d.advance :: rest := by
  rw [State.unitEnded_chan, Channel.release_queue]

theorem State.unitEnded_holder (s : State) (n : Fin 4) (d : Descriptor) (rest : List Descriptor) (m : Fin 4) :
    (s.unitEnded n d rest).parb.holder ≠ .channel m := by
  simp [State.unitEnded]

section
variable {s : State} {n : Fin 4} (hholder : s.parb.holder = .channel n)
include hholder

theorem State.Fits.holds (h : s.Fits n) : (s.chan n).granted = true := h.holder.mp hholder

theorem State.Fits.holds_busy (h : s.Fits n) : (s.chan n).state = .busy :=
  h.core.busy_of_granted (h.holds hholder)

variable {d : Descriptor} {rest : List Descriptor} (hq : (s.chan n).queue = d :: rest)
include hq

theorem State.unitEnded_touches : State.Touches n s (s.unitEnded n d rest) := by
  refine (State.Touches.endGrant hholder).trans (State.Touches.setChan _ fun h => Channel.Cap.release ?_)
  exact ⟨by simpa [hq] using h.1, h.2⟩

theorem State.Fits.unitEnded_free (h : s.Fits n) (hf : (s.chan n).flushPending = false) :
    ((s.unitEnded n d rest).chan n).Free := by
  rw [State.unitEnded_chan]
  exact h.core.unitDone (h.holds hholder) hq hf

omit hq in
theorem State.Fits.unitEnded_offer (h : s.Fits n) : ((s.unitEnded n d rest).chan n).offer = none := by
  rw [State.unitEnded_chan]
  exact h.core.offer_none (by simp [h.holds_busy hholder])

/-- The pending flags act (R125). -/
theorem State.unitEnded_actPending_keeps
    (hpending : (s.chan n).flushPending = true ∨ (s.chan n).holdPending = true) :
    State.Keeps s ((s.unitEnded n d rest).actPending n) := by
  have hchan := s.unitEnded_chan n d rest
  have hqueue := s.unitEnded_queue n d rest
  have hnone := s.unitEnded_holder n d rest n
  refine ((State.unitEnded_touches hholder hq).trans (State.Touches.actPending _ n)).keeps fun h => ?_
  cases hf : (s.chan n).flushPending with
  | true =>
    rw [State.actPending_of_flush (by rw [hchan]; exact hf)]
    exact State.flushNow_fits hnone
  | false =>
    have hh : (s.chan n).holdPending = true := hpending.resolve_left (by simp [hf])
    have hfree := h.unitEnded_free hholder hq hf
    rw [State.actPending_of_hold (by rw [hchan]; exact hf) (by rw [hchan]; exact hh) hqueue]
    split
    next hzero => exact State.postHead_fits hfree hqueue (by simpa using hzero) hnone
    next hleft =>
      refine State.Fits.setFree ?_ hfree.port nofun nofun hnone
      exact Channel.Free.core { hfree with } trivial (h.unitEnded_offer hholder) rfl (by simpa [hqueue] using hleft)

/-- The head has nothing left and is posted (R118). -/
theorem State.unitEnded_postHead_keeps (hf : (s.chan n).flushPending = false) (hzero : d.advance.remaining = 0) :
    State.Keeps s ((s.unitEnded n d rest).postHead n .done) := by
  refine ((State.unitEnded_touches hholder hq).trans (State.Touches.postHead _ n .done)).keeps fun h => ?_
  exact State.postHead_fits (h.unitEnded_free hholder hq hf) (s.unitEnded_queue n d rest) (by simpa using hzero)
    (s.unitEnded_holder n d rest n)

/-- The grant has ended with the channel BUSY, and its next unit is checked (R108). -/
theorem State.unitEnded_checkUnit_keeps (hf : (s.chan n).flushPending = false)
    (hh : (s.chan n).holdPending = false) (hleft : d.advance.remaining ≠ 0) :
    State.Keeps s ((s.unitEnded n d rest).checkUnit n) := by
  have hchan := s.unitEnded_chan n d rest
  have hqueue := s.unitEnded_queue n d rest
  refine ((State.unitEnded_touches hholder hq).trans (State.Touches.checkUnit _ n)).keeps fun h => ?_
  have hfree := h.unitEnded_free hholder hq hf
  have hstate : ((s.unitEnded n d rest).chan n).state = .busy := by
    rw [hchan]
    exact h.holds_busy hholder
  refine State.Loose.checkUnit (State.Loose.of_free ?_ hfree.port (by simp [hstate]) (s.unitEnded_holder n d rest n))
  refine hfree.core ?_ (h.unitEnded_offer hholder) ?_ (by simpa [hqueue] using hleft)
  · simp [Channel.StateFits, hstate, hqueue]
  · rw [hchan]
    exact hh

/-- A FREE burst goes on with its next unit (R53). -/
theorem State.burst_keeps (hleft : d.advance.remaining ≠ 0) (src dst : Fin 4) :
    State.Keeps s ((s.idleMseq.setChan n { s.chan n with
      queue := d.advance :: rest, port := (s.chan n).port.unitMoved, tend := false }).beginUnit n d.advance
      src dst) := by
  have hunit := State.PortOp.beginWork
    (s.idleMseq.setChan n { s.chan n with
      queue := d.advance :: rest, port := (s.chan n).port.unitMoved, tend := false })
    (.unitRead n (captureAccess s.rgd.regions .read d.advance.curSrc src)
      (captureAccess s.rgd.regions .write d.advance.curDst dst))
  have hset := State.Touches.setChan s.idleMseq (n := n)
    (c := { s.chan n with queue := d.advance :: rest, port := (s.chan n).port.unitMoved, tend := false })
    fun h => ⟨by simpa [hq] using h.1, h.2⟩
  refine ((((State.PortOp.idleMseq s).touches n).trans hset).trans (hunit.touches n)).keeps fun h => hunit.fits ?_
  have hg := h.holds hholder
  obtain ⟨limit, moved, hport⟩ := Channel.granted_iff.mp hg
  have hcore := h.core.goOn hq hg hleft
  refine State.Fits.setChan (Channel.ok_iff.mpr ⟨hcore, Channel.settled_of_port ?_⟩) ?_ ?_ ?_
  · simp [hport, PortRequest.unitMoved]
  · simp [h.holds_busy hholder]
  · simp [Channel.claims, hport, PortRequest.unitMoved]
  · exact iff_of_true hholder (by simp [Channel.granted, hport, PortRequest.unitMoved])

omit hq in
/-- The unit of channel n has ended and its grant with it: what follows in the same event (R110, R118, R125). -/
theorem State.finishUnit_keeps : State.Keeps s (s.finishUnit n) := by
  unfold State.finishUnit
  dsimp only
  split
  next hempty =>
    refine State.Touches.keeps (n := n)
      ((State.Touches.endGrant hholder).trans (State.Touches.setChan _ fun h => Channel.Cap.release h)) fun h => ?_
    exact absurd hempty (h.core.head (.inl (h.holds_busy hholder)))
  next d rest hq =>
    split
    next hpending => exact State.unitEnded_actPending_keeps hholder hq hpending
    next hpending =>
      obtain ⟨hflush, hhold⟩ := not_or.mp hpending
      have hf : (s.chan n).flushPending = false := Bool.eq_false_iff.mpr hflush
      have hh : (s.chan n).holdPending = false := Bool.eq_false_iff.mpr hhold
      split
      next hzero => exact State.unitEnded_postHead_keeps hholder hq hf hzero
      next hleft =>
        have hcheck := State.unitEnded_checkUnit_keeps hholder hq hf hh hleft
        split
        next =>
          split
          next src dst _ => exact State.burst_keeps hholder hq hleft src dst
          next => exact hcheck
        next => exact hcheck

end

end Sys2Proof.Machine
end

section
/-! TIMEOUT, the logs, a region load and the resets keep the capacities, the sequence numbers and the channels in
order (chapters 2, 5, 9 and 11). -/
namespace Sys2Proof.Machine

/-! ### TIMEOUT (R68, R111) -/

@[simp] theorem State.portView_timeoutUnit (s : State) (n : Fin 4) (a : Access) :
    (s.timeoutUnit n a).portView = s.portView := by
  unfold State.timeoutUnit
  dsimp only
  split <;> simp

theorem State.Touches.timeoutUnit (s : State) (n : Fin 4) (a : Access) : State.Touches n s (s.timeoutUnit n a) := by
  unfold State.timeoutUnit
  dsimp only
  split
  · exact ((State.PortOp.fileFault s _).touches n).trans (State.Touches.flushNow _ n)
  · exact ((State.PortOp.fileFault s _).touches n).trans
      (State.Touches.setChan _ fun h => Channel.Cap.release (by simpa using h))

theorem State.chan_flushNow_same (s : State) (n : Fin 4) : (s.flushNow n).chan n = (s.chan n).flushed :=
  s.chan_setChan_same n _

/-- The channel of a unit that timed out has lost its grant, and is OFF or FAULTED (R111, R125). -/
theorem State.timeoutUnit_chan {s : State} {n : Fin 4} (hc : (s.chan n).Core) (hg : (s.chan n).granted = true)
    (a : Access) :
    ((s.timeoutUnit n a).chan n).Core ∧ ((s.timeoutUnit n a).chan n).port = .none ∧
      ((s.timeoutUnit n a).chan n).state ≠ .busy ∧ ((s.timeoutUnit n a).chan n).state ≠ .posting := by
  have hbusy := hc.busy_of_granted hg
  cases hf : (s.chan n).flushPending with
  | true =>
    have hchan : (s.timeoutUnit n a).chan n = (s.chan n).flushed := by
      simp [State.timeoutUnit, hf, State.chan_flushNow_same]
    rw [hchan]
    exact ⟨(Channel.ok_iff.mp (s.chan n).flushed_ok).1, rfl, nofun, nofun⟩
  | false =>
    have hchan : (s.timeoutUnit n a).chan n =
        { (s.chan n).release with state := .faulted, holdPending := false } := by
      simp [State.timeoutUnit, hf]
    rw [hchan]
    exact ⟨hc.leave (by simp [hbusy]) hf rfl (hc.head (.inl hbusy)), rfl, nofun, nofun⟩

/-- What follows the report of a TIMEOUT: the record is cleared, and the port is free, or closes the row that was open
under RESIDUAL (R68). -/
def State.afterTimeout (s : State) (row : Option (OpenRow × Nat)) : State :=
  match row with
  | some (r, penalty) =>
    State.startOp { s.setRecord none with parb := { s.parb with holder := .residual } } .timeoutClose
      (.rowClose r penalty)
  | none => (s.setRecord none).endGrant

theorem State.endInTimeout_eq (s : State) (a : Access) :
    s.endInTimeout a =
      (s.reportTimeout a).afterTimeout (s.mseq.record.map fun r => (r, closePenalty s.rgd.regions r)) := by
  unfold State.endInTimeout
  cases s.mseq.record <;> rfl

theorem State.PortOp.afterTimeout {s : State} (hs : ∀ m, s.parb.holder ≠ .channel m)
    (row : Option (OpenRow × Nat)) : State.PortOp s (s.afterTimeout row) := by
  unfold State.afterTimeout
  split
  · exact .of_frame rfl rfl rfl rfl (fun m => iff_of_false (by simp) (hs m)) id rfl fun _ => Nat.zero_le _
  · exact (State.PortOp.setRecord s none).trans (.endGrant hs)

theorem State.Touches.afterTimeout {s : State} {n : Fin 4} (hs : s.parb.holder = .channel n)
    (row : Option (OpenRow × Nat)) : State.Touches n s (s.afterTimeout row) := by
  unfold State.afterTimeout
  split
  · exact ((State.PortOp.setRecord s none).touches n).trans ((State.Touches.giveUp (by exact hs) (x := .residual)
      (by simp) s.mseq.op le_rfl).trans ((State.PortOp.startOp _ _ _).touches n))
  · exact ((State.PortOp.setRecord s none).touches n).trans (State.Touches.endGrant hs)

theorem State.afterTimeout_chan (s : State) (row : Option (OpenRow × Nat)) (m : Fin 4) :
    (s.afterTimeout row).chan m = s.chan m := by
  unfold State.afterTimeout
  split <;> rfl

theorem State.afterTimeout_holder (s : State) (row : Option (OpenRow × Nat)) (m : Fin 4) :
    (s.afterTimeout row).parb.holder ≠ .channel m := by
  unfold State.afterTimeout
  split <;> simp

theorem State.endInTimeout_keeps (s : State) (a : Access) : State.Keeps s (s.endInTimeout a) := by
  rw [State.endInTimeout_eq]
  generalize s.mseq.record.map (fun r => (r, closePenalty s.rgd.regions r)) = row
  have hquiet (hs : ∀ m, s.parb.holder ≠ .channel m) : State.Keeps s (s.afterTimeout row) :=
    (State.PortOp.afterTimeout hs row).keeps
  unfold State.reportTimeout
  split
  next hholder =>
    have hs : ∀ m, s.parb.holder ≠ .channel m := by simp [hholder]
    split
    next c _ =>
      have hfault := State.PortOp.faultCycle s c .timeout
      exact (hfault.trans (.afterTimeout (fun m hm => hs m ((hfault.holder m).mp hm)) row)).keeps
    next => exact hquiet hs
  next n hholder =>
    have hview := State.portView_timeoutUnit s n a
    have hnamed : (s.timeoutUnit n a).parb.holder = .channel n :=
      (congrArg (fun v => v.2.1) hview).trans hholder
    refine ((State.Touches.timeoutUnit s n a).trans (State.Touches.afterTimeout hnamed row)).keeps fun h => ?_
    obtain ⟨hcore, hport, hbusy, hposting⟩ := State.timeoutUnit_chan h.core (h.holder.mp hholder) a
    rw [← State.afterTimeout_chan _ row n] at hcore hport hbusy hposting
    exact State.Fits.of_free hcore hport hbusy hposting (State.afterTimeout_holder _ row n)
  next hholder => exact hquiet (by simp [hholder])
  next hholder => exact hquiet (by simp [hholder])
  next hholder => exact hquiet (by simp [hholder])

/-! ### The Completion Log (R134, R137) -/

theorem State.Fits.not_holder_of_posting {s : State} {n : Fin 4} (h : s.Fits n) (hs : (s.chan n).state = .posting) :
    s.parb.holder ≠ .channel n :=
  h.loose.not_holder (Channel.granted_of_free (h.core.free_of_state (by simp [hs])))

theorem State.waitingChannel_posting {s : State} {n : Fin 4} (h : s.waitingChannel = some n) :
    (s.chan n).state = .posting := by
  simpa using List.find?_some h

theorem State.waitingChannel_none {s : State} (h : s.waitingChannel = none) (n : Fin 4) :
    (s.chan n).state ≠ .posting := by
  simpa using List.find?_eq_none.mp h n (mem_allFour n)

theorem State.takeWaiting_keeps (s : State) : State.Keeps s s.takeWaiting := by
  unfold State.takeWaiting
  split
  next n hn =>
    have hposting := State.waitingChannel_posting hn
    exact (State.Touches.offerRecord s n).keeps fun h =>
      State.offerRecord_fits h.core hposting (h.not_holder_of_posting hposting)
  next => exact .refl s

/-- A record offered is taken while the log has room (R132). -/
theorem State.offerRecord_log {s : State} {n : Fin 4} (h : (s.chan n).offer.isSome = true) :
    min 16 (s.clog.records.length + 1) ≤ (s.offerRecord n).clog.records.length := by
  unfold State.offerRecord
  split
  next =>
    obtain ⟨o, ho⟩ := Option.isSome_iff_exists.mp h
    rw [State.takeRecord_some ho]
    simp
  next hfull => omega

/-- The oldest record has left the log, and no waiting record has taken its slot yet (R137). -/
def State.popped (s : State) (rest : List CompletionRecord) : State :=
  State.setResult { s with clog := { s.clog with records := rest } } .ok

section
variable {s : State} {rest : List CompletionRecord}

@[simp] theorem State.chan_popped (n : Fin 4) : (s.popped rest).chan n = s.chan n := by rfl

theorem State.Fits.popped {n : Fin 4} (h : s.Fits n) (hn : (s.chan n).state ≠ .posting) : (s.popped rest).Fits n :=
  ⟨h.ok, fun hp => absurd hp hn, h.passes, h.holder⟩

variable {r : CompletionRecord} (hlog : s.clog.records = r :: rest)
include hlog

theorem State.popped_capacity (h : s.CapacityOk) : (s.popped rest).CapacityOk := by
  obtain ⟨hcap, hroom, hflush, hcounts⟩ := State.capacityOk_iff.mp h
  rw [hlog] at hroom
  exact State.capacityOk_iff.mpr ⟨hcap, (Nat.le_succ _).trans hroom, hflush, hcounts⟩

theorem State.popped_sequence (h : s.SequenceOk) : (s.popped rest).SequenceOk := by
  unfold State.SequenceOk at h
  rw [hlog] at h
  exact seqRun_tail h

/-- The freed slot goes to a waiting record, and the log is full again (R134). -/
theorem State.popped_takeWaiting_channels (h : s.ChannelsOk) : (s.popped rest).takeWaiting.ChannelsOk := by
  have hfits := State.channelsOk_iff.mp h
  unfold State.takeWaiting
  split
  next n hn =>
    have hposting : (s.chan n).state = .posting := State.waitingChannel_posting hn
    have hoffer : ((s.popped rest).chan n).offer.isSome = true := (hfits n).core.offer_posting.mpr hposting
    have hlength := State.offerRecord_log hoffer
    have hpopped : (s.popped rest).clog.records.length + 1 = s.clog.records.length := by simp [State.popped, hlog]
    have hlogged := (hfits n).waits hposting
    have htouches := State.Touches.offerRecord (s.popped rest) n
    refine State.channelsOk_iff.mpr fun m => ?_
    by_cases hm : m = n
    · rw [hm]
      exact State.offerRecord_fits (hfits n).core hposting ((hfits n).not_holder_of_posting hposting)
    · have hother : ((s.popped rest).offerRecord n).chan m = s.chan m := htouches.other m hm
      refine ⟨hother ▸ (hfits m).ok, fun _ => by omega, ?_, (htouches.holder m hm).trans ?_⟩
      · rw [State.claimFails_congr hother htouches.regions]
        exact (hfits m).passes
      · rw [hother]
        exact (hfits m).holder
  next hnone =>
    exact State.channelsOk_iff.mpr fun n => (hfits n).popped (State.waitingChannel_none hnone n)

end

theorem State.logpop_keeps (s : State) : State.Keeps s s.logpop := by
  unfold State.logpop
  split
  next => exact .setResult s .empty
  next r rest hlog =>
    have hlater := (s.popped rest).takeWaiting_keeps
    exact ⟨fun h => hlater.capacity (State.popped_capacity hlog h),
      fun h => hlater.sequence (State.popped_sequence hlog h), State.popped_takeWaiting_channels hlog⟩

/-! ### A region load (R27 to R29) -/

theorem Flog.takeAll_length {f : Flog} (h : f.records.length ≤ 4) (reports : List FaultRecord) :
    (f.takeAll reports).records.length ≤ 4 := by
  simp only [Flog.takeAll, List.length_append, List.length_take]
  omega

/-- A failing unit waits with a claim (R27). -/
theorem State.claims_of_report {s : State} {n : Fin 4} (h : (s.report n).isSome = true) :
    (s.chan n).claims = true := by
  unfold State.report State.waitingReport at h
  split at h
  next hclaims => exact hclaims
  next => cases h

theorem Rpc.reloaded_counts (p : Rpc) (before after : Bool) :
    (p.reloaded before after).debt ≤ p.debt ∧ (p.reloaded before after).rfurg = p.rfurg := by
  unfold Rpc.reloaded
  repeat' split
  all_goals simp

section
variable (s : State) (r : Fin 4) (e : RegionEntry)

theorem State.loadRegion_chan (n : Fin 4) :
    (s.loadRegion r e).chan n =
      if ((s.replaceRegion r e).report n).isSome then { (s.chan n).release with state := .faulted }
      else s.chan n := by
  rw [State.loadRegion_eq, State.chan_recheckClaims]
  rfl

theorem State.loadRegion_clog : (s.loadRegion r e).clog = s.clog := by
  rw [State.loadRegion_frame]
  rfl

theorem State.loadRegion_holder : (s.loadRegion r e).parb.holder = s.parb.holder := by
  rw [State.loadRegion_frame]
  rfl

theorem State.loadRegion_capacity (h : s.CapacityOk) : (s.loadRegion r e).CapacityOk := by
  obtain ⟨hcap, hlog, hflush, hflog, hdebt, hurg, hext⟩ := State.capacityOk_iff.mp h
  obtain ⟨filed, -, hfiled⟩ := (s.replaceRegion r e).recheckClaims_flog
  rw [← State.loadRegion_eq] at hfiled
  obtain ⟨hreload, hsame⟩ := s.rpc.reloaded_counts (anyDynamic s.rgd.regions) (anyDynamic (s.rgd.regions.set r e))
  refine State.capacityOk_iff.mpr ⟨fun n => ?_, s.loadRegion_clog r e ▸ hlog, ?_, ?_, ?_⟩
  · rw [State.loadRegion_chan]
    split
    · exact (hcap n).release
    · exact hcap n
  · rw [State.loadRegion_frame]
    exact hflush
  · rw [hfiled]
    exact Flog.takeAll_length hflog filed
  · rw [State.loadRegion_frame]
    exact ⟨hreload.trans hdebt, hsame ▸ hurg, hext⟩

/-- A channel whose waiting unit fails under the new table is FAULTED, its claim lost (R27, R109). -/
theorem State.loadRegion_fits_failed {n : Fin 4} (h : s.Fits n)
    (hreport : ((s.replaceRegion r e).report n).isSome = true) : (s.loadRegion r e).Fits n := by
  have hclaims : (s.chan n).claims = true := State.claims_of_report (s := s.replaceRegion r e) hreport
  have hbusy := h.core.busy_of_claims hclaims
  have hg := Channel.granted_of_claims hclaims
  have hposting : (s.chan n).state ≠ .posting := by simp [hbusy]
  have hfaulted : (s.loadRegion r e).chan n = { (s.chan n).release with state := .faulted } := by
    rw [State.loadRegion_chan, if_pos hreport]
  refine State.Fits.of_free ?_ ?_ ?_ ?_ ?_
  · rw [hfaulted]
    exact h.core.leave hposting (h.core.no_flush hg) (h.core.no_hold hposting hg) (h.core.head (.inl hbusy))
  · rw [hfaulted, Channel.release_port]
  · simp [hfaulted]
  · simp [hfaulted]
  · rw [State.loadRegion_holder]
    exact h.loose.not_holder hg

theorem State.loadRegion_fits_passed {n : Fin 4} (h : s.Fits n)
    (hreport : ((s.replaceRegion r e).report n).isSome = false) : (s.loadRegion r e).Fits n := by
  have hsame : (s.loadRegion r e).chan n = s.chan n := by
    rw [State.loadRegion_chan, if_neg (by simp [hreport])]
  have hregions : (s.loadRegion r e).rgd.regions = (s.replaceRegion r e).rgd.regions := by
    rw [State.loadRegion_rgd]
    rfl
  refine ⟨hsame ▸ h.ok, fun hp => s.loadRegion_clog r e ▸ h.waits (hsame ▸ hp), ?_, ?_⟩
  · rw [State.claimFails_congr (s := s.replaceRegion r e) hsame hregions, State.claimFails_eq]
    exact hreport
  · rw [State.loadRegion_holder, hsame]
    exact h.holder

theorem State.loadRegion_keeps : State.Keeps s (s.loadRegion r e) where
  capacity := s.loadRegion_capacity r e
  sequence h := by
    unfold State.SequenceOk
    rw [State.loadRegion_clog]
    exact h
  channels h := State.channelsOk_iff.mpr fun n => by
    have hn := State.channelsOk_iff.mp h n
    cases hreport : ((s.replaceRegion r e).report n).isSome with
    | true => exact s.loadRegion_fits_failed r e hn hreport
    | false => exact s.loadRegion_fits_passed r e hn hreport

end

/-! ### The resets (R158, R159) -/

/-- A state of channels, logs and FLUSHN just reset, PARB naming no channel. -/
theorem State.Keeps.reset {s t : State} (hchan : ∀ n, ∃ trq, t.chan n = Channel.reset trq)
    (hclog : t.clog = Clog.reset)
    (hflog : t.flog = Flog.reset) (hflush : t.txe.flushn = 0) (hholder : ∀ n, t.parb.holder ≠ .channel n)
    (hcounts : s.CapacityOk → t.rpc.debt ≤ 8 ∧ (1 ≤ t.rpc.rfurg ∧ t.rpc.rfurg ≤ 8) ∧ t.mseq.extension ≤ 256) :
    State.Keeps s t where
  capacity h := by
    refine State.capacityOk_iff.mpr ⟨fun n => ?_, by simp [hclog, Clog.reset], by simp [hflush],
      by simp [hflog, Flog.reset], hcounts h⟩
    obtain ⟨trq, htrq⟩ := hchan n
    rw [htrq]
    have hcfg : ChanConfig.reset.Ok := by decide
    exact ⟨Nat.zero_le _, hcfg, hcfg⟩
  sequence _ := by
    unfold State.SequenceOk
    rw [hclog]
    trivial
  channels _ := by
    refine State.channelsOk_iff.mpr fun n => ?_
    obtain ⟨trq, htrq⟩ := hchan n
    refine State.Fits.of_free ?_ ?_ ?_ ?_ (hholder n) <;> rw [htrq]
    · exact (Channel.ok_iff.mp (Channel.reset_ok trq)).1
    · rfl
    · nofun
    · nofun

theorem State.residualFromChannel_counts (s : State) : State.Counts s s.residualFromChannel := by
  unfold State.residualFromChannel
  split
  · exact .giveUpGrant s
  all_goals exact ⟨id, id⟩

theorem State.residualFromChannel_holder (s : State) (n : Fin 4) :
    s.residualFromChannel.parb.holder ≠ .channel n := by
  unfold State.residualFromChannel
  split
  · exact s.giveUpGrant_holder n
  all_goals simp_all

theorem State.controllerReset_keeps (s : State) : State.Keeps s s.controllerReset := by
  refine State.Keeps.reset (fun n => ⟨_, Quad.get_map _ _ n⟩) rfl rfl rfl s.residualFromChannel_holder fun h => ?_
  obtain ⟨_, _, _, _, hcounts⟩ := State.capacityOk_iff.mp (s.residualFromChannel_counts.capacity h)
  exact hcounts

theorem State.pinReset_keeps (s : State) : State.Keeps s s.pinReset :=
  State.Keeps.reset (fun n => ⟨_, Quad.get_map _ _ n⟩) rfl rfl rfl nofun fun _ =>
    (by decide : State.reset.rpc.debt ≤ 8 ∧ (1 ≤ State.reset.rpc.rfurg ∧ State.reset.rpc.rfurg ≤ 8) ∧
      State.reset.mseq.extension ≤ 256)

/-! ### Every command -/

/-- Registers that the invariants say nothing of. -/
theorem State.PortOp.of_blind {s t : State} (hchans : t.txe.chans = s.txe.chans)
    (hflushn : t.txe.flushn = s.txe.flushn)
    (hclog : t.clog = s.clog) (hflog : t.flog.records = s.flog.records) (hregions : t.rgd.regions = s.rgd.regions)
    (hholder : t.parb.holder = s.parb.holder) (hrpc : t.rpc = s.rpc) (hmseq : t.mseq = s.mseq) : State.PortOp s t :=
  ⟨hregions, fun m => by rw [hholder], hchans, hflushn, hclog, fun h => by
    simpa only [State.CountsOk, hflog, hrpc, hmseq] using h⟩

theorem State.fltpop_keeps (s : State) : State.Keeps s s.fltpop := by
  unfold State.fltpop
  split
  next => exact .setResult s .empty
  next hlog =>
    refine State.PortOp.keeps ⟨rfl, fun _ => Iff.rfl, rfl, rfl, rfl, fun ⟨hflog, hrest⟩ => ⟨?_, hrest⟩⟩
    rw [hlog] at hflog
    exact (Nat.le_succ _).trans hflog

theorem State.PortOp.wload (s : State) (data : Byte) : State.PortOp s (s.wload data) := by
  unfold State.wload
  split
  next => exact .setResult s _
  next =>
    split
    next => exact .of_blind rfl rfl rfl rfl rfl rfl rfl rfl
    next => exact .setResult s _

theorem State.PortOp.wread (s : State) (data : Byte) : State.PortOp s (s.wread data) := by
  unfold State.wread
  split
  next => exact .setResult s _
  next => exact .of_blind rfl rfl rfl rfl rfl rfl rfl rfl

theorem State.PortOp.rread (s : State) (data : Byte) : State.PortOp s (s.rread data) := by
  unfold State.rread
  split
  next => exact .setResult s _
  next => exact .of_blind rfl rfl rfl rfl rfl rfl rfl rfl

theorem State.rload_keeps (s : State) (data : Byte) : State.Keeps s (s.rload data) := by
  unfold State.rload
  split
  next => exact .setResult s _
  next =>
    split
    next => exact .setResult s _
    next =>
      split
      next => exact .setResult s _
      next => exact (State.loadRegion_keeps s _ _).trans (.setResult _ _)

theorem State.PortOp.writeArbmode (s : State) (data : Byte) : State.PortOp s (s.writeArbmode data) :=
  .of_blind rfl rfl rfl rfl rfl rfl rfl rfl

theorem State.PortOp.writeInten (s : State) (data : Byte) : State.PortOp s (s.writeInten data) :=
  .of_blind rfl rfl rfl rfl rfl rfl rfl rfl

theorem State.PortOp.writeIntcause (s : State) (data : Byte) : State.PortOp s (s.writeIntcause data) :=
  .of_blind rfl rfl rfl rfl rfl rfl rfl rfl

theorem State.PortOp.writePlain (s : State) (off : Offset) (b : Byte) : State.PortOp s (s.writePlain off b) := by
  unfold State.writePlain
  dsimp only
  split <;> exact .of_blind rfl rfl rfl rfl rfl rfl rfl rfl

theorem State.PortOp.readAt (s : State) (off : Offset) : State.PortOp s (s.readAt off) := by
  unfold State.readAt
  split
  · exact .of_blind rfl rfl rfl rfl rfl rfl rfl rfl
  · exact .pbi s _

theorem State.writeAt_keeps (s : State) (off : Offset) (b : Byte) : State.Keeps s (s.writeAt off b) := by
  unfold State.writeAt
  split
  · exact s.channelStrobe_keeps b s.enqOn_keeps
  · exact s.channelStrobe_keeps b s.startOn_keeps
  · exact s.channelStrobe_keeps b s.holdOn_keeps
  · exact s.channelStrobe_keeps b s.resumeOn_keeps
  · exact s.channelStrobe_keeps b s.skipOn_keeps
  · exact s.channelStrobe_keeps b s.flushOn_keeps
  · exact s.writeChcfg_keeps b
  · exact (State.PortOp.wload s b).keeps
  · exact (State.PortOp.wread s b).keeps
  · exact s.rload_keeps b
  · exact (State.PortOp.rread s b).keeps
  · exact s.logpop_keeps
  · exact s.fltpop_keeps
  · exact (State.PortOp.writeRfint s false b).keeps
  · exact (State.PortOp.writeRfint s true b).keeps
  · exact (State.PortOp.writeRfurg s b).keeps
  · exact (State.PortOp.park s).keeps
  · exact (State.PortOp.wake s).keeps
  · exact (State.PortOp.writeArbmode s b).keeps
  · exact (State.PortOp.writeInten s b).keeps
  · exact (State.PortOp.writeIntcause s b).keeps
  · exact s.controllerReset_keeps
  · exact (State.PortOp.writePlain s off b).keeps

theorem State.serveWindow_keeps (s : State) (pins : BusPins) : State.Keeps s (s.serveWindow pins) := by
  unfold State.serveWindow
  dsimp only
  split
  · exact (State.PortOp.readAt s _).keeps
  · exact s.writeAt_keeps _ _
  · exact .refl s
  · exact .refl s

theorem State.windowCycle_keeps {f : State → State} (hf : ∀ u, State.Keeps u (f u)) (s : State) :
    State.Keeps s (s.windowCycle f) := by
  rcases s.windowCycle_cases f with ⟨p, hp⟩ | ⟨p, hp⟩ <;> rw [hp]
  · exact (State.PortOp.pbi s p).keeps
  · exact (State.PortOp.pbi s p).keeps.trans (hf _)

/-- The outcome is a next state in which the capacities, the sequence numbers and the channels are still in order. -/
def KeepsOrder (s : State) (o : Host.Outcome State Fault Refusal) : Prop := ∃ t, o = .next t ∧ State.Keeps s t

theorem KeepsOrder.next {s t : State} (h : State.Keeps s t) : KeepsOrder s (.next t) := ⟨t, rfl, h⟩

theorem KeepsOrder.next_refl (s : State) : KeepsOrder s (.next s) := .next (.refl s)

theorem KeepsOrder.nextOr {s : State} {o : Host.Outcome State Fault Refusal} (h : KeepsOrder s o) (u : State) :
    State.Keeps s (nextOr u o) := by
  obtain ⟨t, rfl, ht⟩ := h
  exact ht

theorem execUnitComplete_keepsOrder (s : State) : KeepsOrder s (execUnitComplete s) := by
  unfold execUnitComplete
  split
  next =>
    split
    next hdue => exact .next (State.finishUnit_keeps hdue.1)
    next => exact .next_refl s
  next => exact .next_refl s

theorem execUnitReadComplete_keepsOrder (md : Byte) (s : State) : KeepsOrder s (execUnitReadComplete md s) := by
  unfold execUnitReadComplete
  split
  next =>
    split
    next hdue => exact .next (State.finishRead_keeps hdue.1 _ md)
    next => exact .next_refl s
  next => exact .next_refl s

theorem execAccessComplete_keepsOrder (md : Byte) (s : State) : KeepsOrder s (execAccessComplete md s) := by
  have hfinish (hdue : s.parb.holder = .processor ∧ s.mayComplete = true) : State.Keeps s (s.finishAccess md) :=
    (State.PortOp.finishAccess (by simp [hdue.1]) md).keeps
  unfold execAccessComplete
  dsimp only
  split
  next =>
    split
    next hdue => exact .next (hfinish hdue)
    next => exact .next_refl s
  next =>
    split
    next hdue => exact .next (hfinish hdue)
    next => exact .next_refl s
  next => exact .next_refl s

theorem execRowOpen_keepsOrder (s : State) : KeepsOrder s (execRowOpen s) := by
  unfold execRowOpen
  split
  next =>
    split
    next => exact .next (State.PortOp.finishRowOpen s _ _).keeps
    next => exact .next_refl s
  next => exact .next_refl s

theorem execRowClose_keepsOrder (s : State) : KeepsOrder s (execRowClose s) := by
  unfold execRowClose
  split
  next => exact .next (State.PortOp.finishRowClose s _).keeps
  next => exact .next_refl s

theorem execTimeout_keepsOrder (s : State) : KeepsOrder s (execTimeout s) := by
  unfold execTimeout
  split
  next => exact .next (s.endInTimeout_keeps _)
  next => exact .next_refl s

theorem execResidualEnd_keepsOrder (s : State) : KeepsOrder s (execResidualEnd s) := by
  unfold execResidualEnd
  split
  next =>
    split
    next hdue =>
      refine .next ((State.PortOp.setRecord s _).trans (.endGrant ?_)).keeps
      simp [hdue.1]
    next => exact .next_refl s
  next => exact .next_refl s

theorem execRefresh_keepsOrder (s : State) : KeepsOrder s (execRefresh s) := by
  unfold execRefresh
  split
  next =>
    split
    next hdue => exact .next (State.PortOp.finishRefresh (by simp [hdue])).keeps
    next => exact .next_refl s
  next => exact .next_refl s

theorem execIntervalTimerExpiry_keepsOrder (s : State) : KeepsOrder s (execIntervalTimerExpiry s) := by
  unfold execIntervalTimerExpiry
  split
  next => exact .next (State.PortOp.expire s).keeps
  next => exact .next_refl s

theorem execParkStep_keepsOrder (s : State) : KeepsOrder s (execParkStep s) := by
  unfold execParkStep
  split
  next => exact .next (State.PortOp.beginParkStep s).keeps
  next => exact .next_refl s

theorem execSelfRefreshEnter_keepsOrder (s : State) : KeepsOrder s (execSelfRefreshEnter s) := by
  unfold execSelfRefreshEnter
  split
  next =>
    split
    next => exact .next (State.PortOp.enterParked s).keeps
    next => exact .next_refl s
  next => exact .next_refl s

theorem execSelfRefreshExit_keepsOrder (s : State) : KeepsOrder s (execSelfRefreshExit s) := by
  unfold execSelfRefreshExit
  split
  next =>
    split
    next => exact .next (State.PortOp.finishWake s).keeps
    next => exact .next_refl s
  next => exact .next_refl s

theorem execCycleEnd_keepsOrder (s : State) : KeepsOrder s (execCycleEnd s) := by
  unfold execCycleEnd
  split
  next => exact .next (State.PortOp.endCycle s).keeps
  next => exact .next (State.PortOp.pbi s _).keeps

theorem execHeldCycleServed_keepsOrder (pins : BusPins) (s : State) : KeepsOrder s (execHeldCycleServed pins s) := by
  unfold execHeldCycleServed
  split
  next =>
    split
    next => exact .next ((State.PortOp.pbi s _).trans (.lookUpCycle _ pins)).keeps
    next => exact .next ((State.PortOp.pbi s _).keeps.trans (State.serveWindow_keeps _ pins))
    next => exact .next_refl s
  next => exact .next_refl s

theorem exec_keepsOrder (c : Instr) (s : State) : KeepsOrder s (exec c s) := by
  cases hw : c.windowWrite with
  | some w =>
    rw [exec_of_windowWrite (off := w.1) (data := w.2) hw]
    exact .next (State.windowCycle_keeps (fun u => u.writeAt_keeps w.1 w.2) s)
  | none =>
    cases c with
    | enq | start | hold | resume | skip | flush | wload | wread | rload | rread | logpop | fltpop | park | wake
    | ctlrst | rfintWrite | rfurgWrite | chcfgWrite | intcauseWrite | intenWrite | arbmodeWrite | registerWrite =>
      cases hw
    | chstatRead off => exact .next (State.windowCycle_keeps (fun u => (State.PortOp.readAt u off).keeps) s)
    | pinReset => exact .next s.pinReset_keeps
    | memoryCycle pins => exact .next (State.PortOp.beginMemoryCycle s pins).keeps
    | heldCycleServed pins => exact execHeldCycleServed_keepsOrder pins s
    | cycleEnd => exact execCycleEnd_keepsOrder s
    | trqAssert n => exact .next (s.trqEdge_keeps n)
    | trqDeassert n => exact execTrqDeassert_keeps n s
    | portGrant => exact .next s.grantDecision_keeps
    | accessComplete md => exact execAccessComplete_keepsOrder md s
    | unitReadComplete md => exact execUnitReadComplete_keepsOrder md s
    | unitComplete => exact execUnitComplete_keepsOrder s
    | pendingFlagsActed n => exact execPendingFlagsActed_keeps n s
    | configurationInUse n => exact execConfigurationInUse_keeps n s
    | completionRecordTaken => exact .next s.takeWaiting_keeps
    | rowOpen => exact execRowOpen_keepsOrder s
    | rowClose => exact execRowClose_keepsOrder s
    | timeout => exact execTimeout_keepsOrder s
    | residualEnd => exact execResidualEnd_keepsOrder s
    | refresh => exact execRefresh_keepsOrder s
    | intervalTimerExpiry => exact execIntervalTimerExpiry_keepsOrder s
    | parkStep => exact execParkStep_keepsOrder s
    | selfRefreshEnter => exact execSelfRefreshEnter_keepsOrder s
    | selfRefreshExit => exact execSelfRefreshExit_keepsOrder s

end Sys2Proof.Machine
end

section
/-! What every step keeps, from what every command keeps: the clock is made of commands and of three counts
(log 1). -/
namespace Sys2Proof.Machine

/-- Every command answers a next state. -/
theorem exec_answers (c : Instr) (s : State) : ∃ t, exec c s = .next t :=
  have ⟨t, ht, _⟩ := exec_keepsOrder c s
  ⟨t, ht⟩

/-- A property that every command keeps, the queue and the free values apart, and every count of the clock: of the
operation in progress, of its extension (R59, R67) and of the interval timer (R77). -/
structure KeptByEvents (P : State → Prop) : Prop where
  exec : ∀ {c : Instr} {s t : State}, P s → Machine.exec c s = .next t → P t
  queue : ∀ {s : State} (q : List Instr), P s → P { s with pending := q }
  free : ∀ {s : State}, P s → P s.useFree
  op : ∀ {s : State} {o : Operation}, P s → s.mseq.op = some o →
    P { s with mseq := { s.mseq with op := some { o with left := o.left - 1 } } }
  extend : ∀ {s : State} {o : Operation}, P s → s.mseq.op = some o → o.kind = .read ∨ o.kind = .write →
    s.mseq.extension < 256 →
    P { s with mseq := { s.mseq with extension := s.mseq.extension + 1, op := some { o with left := 0 } } }
  timer : ∀ {s : State} {k : Nat}, P s → s.rpc.timer = some k → 1 < k →
    P { s with rpc := { s.rpc with timer := some (k - 1) } }

/-- A READ or WRITE to a region with ready enable may end as TIMEOUT (R68). -/
theorem State.extensible_of_access {s : State} {o : Operation} {a : Access} (hop : s.mseq.op = some o)
    (hk : o.kind = .read ∨ o.kind = .write) (ha : o.work.access = some a) (hready : a.entry.readyEnable = true) :
    s.extensible = some a := by
  obtain ⟨kind, left, work⟩ := o
  rcases hk with rfl | rfl <;> simp_all [State.extensible]

section
variable {P : State → Prop} (h : KeptByEvents P) {s : State}
include h

theorem KeptByEvents.nextOr (c : Instr) (hs : P s) (u : State) : P (nextOr u (Machine.exec c s)) := by
  obtain ⟨t, ht⟩ := exec_answers c s
  rw [ht]
  exact h.exec hs ht

theorem KeptByEvents.clockTimer (hs : P s) : P s.clockTimer := by
  unfold State.clockTimer
  split
  next => exact hs
  next k hk =>
    split
    next =>
      refine h.exec (c := .intervalTimerExpiry) hs ?_
      simp [Machine.exec, execIntervalTimerExpiry, hk]
    next hlate => exact h.timer hs hk (by omega)

theorem KeptByEvents.completeAccess (hs : P s) : P s.completeAccess := by
  unfold State.completeAccess
  split
  next => exact h.nextOr .residualEnd hs s
  next =>
    split
    next => exact h.nextOr (.accessComplete (Config.bankByte s.freeCount)) (h.free hs) s
    next => exact h.nextOr (.unitReadComplete (Config.bankByte s.freeCount)) (h.free hs) s
    next => exact h.nextOr .unitComplete hs s
    next => exact hs

theorem KeptByEvents.sample {o : Operation} {a : Access} (hs : P s) (hop : s.mseq.op = some o)
    (hk : o.kind = .read ∨ o.kind = .write) (ha : o.work.access = some a) : P (s.sample a) := by
  unfold State.sample
  split
  next hready =>
    split
    next =>
      refine h.exec (c := .timeout) hs ?_
      simp only [Machine.exec, execTimeout, State.extensible_of_access hop hk ha hready]
    next hlt =>
      split
      next => exact h.completeAccess (h.free hs)
      next =>
        have hextended := h.extend (h.free hs) hop hk (by simpa using hlt)
        simpa [hop] using hextended
  next => exact h.completeAccess hs

theorem KeptByEvents.endOp {o : Operation} (hs : P s) (hop : s.mseq.op = some o) : P (s.endOp o) := by
  unfold State.endOp
  cases hk : o.kind with
  | read =>
    dsimp only
    split
    next ha => exact h.sample hs hop (.inl hk) ha
    next => exact hs
  | write =>
    dsimp only
    split
    next ha => exact h.sample hs hop (.inr hk) ha
    next => exact hs
  | rowOpen => exact h.nextOr .rowOpen hs s
  | rowClose row penalty => exact h.nextOr .rowClose hs s
  | refresh => exact h.nextOr .refresh hs s
  | selfRefreshEnter => exact h.nextOr .selfRefreshEnter hs s
  | selfRefreshExit => exact h.nextOr .selfRefreshExit hs s

theorem KeptByEvents.clockOp (hs : P s) : P s.clockOp := by
  unfold State.clockOp
  split
  next => exact hs
  next o ho =>
    split
    next => exact h.op hs ho
    next => exact h.endOp hs ho

theorem KeptByEvents.clock (hs : P s) : P s.clock := by
  unfold State.clock
  split
  next =>
    split
    next => exact h.clockOp (h.clockTimer (h.free hs))
    next => exact h.clockTimer (h.clockOp (h.free hs))
  next => exact h.clockOp (h.clockTimer hs)

theorem KeptByEvents.idle (hs : P s) : P s.idle := by
  unfold State.idle
  split
  next hdue =>
    refine h.exec (c := .parkStep) hs ?_
    simp [Machine.exec, execParkStep, hdue]
  next =>
    split
    next => exact h.exec (c := .portGrant) hs rfl
    next => exact h.clock hs

theorem KeptByEvents.step {t : State} (hs : P s) (ht : Machine.step s = .next t) : P t := by
  unfold Machine.step at ht
  split at ht
  next =>
    cases ht
    exact h.idle hs
  next c rest _ => exact h.exec (h.queue rest hs) ht

end

/-- A count of the clock is none of what the channels and the capacities are about. -/
theorem State.keeps_keptByEvents (s₀ : State) : KeptByEvents (State.Keeps s₀) where
  exec {c s t} hs ht := by
    obtain ⟨u, hu, hkeeps⟩ := exec_keepsOrder c s
    cases hu.symm.trans ht
    exact hs.trans hkeeps
  queue q hs := hs.trans (State.PortOp.keeps (.of_blind rfl rfl rfl rfl rfl rfl rfl rfl))
  free hs := hs.trans (State.PortOp.keeps (.of_blind rfl rfl rfl rfl rfl rfl rfl rfl))
  op hs _ := hs.trans (State.PortOp.keeps (.of_frame rfl rfl rfl rfl (fun _ => Iff.rfl) id rfl id))
  extend {s o} hs _ _ hext := by
    refine hs.trans (State.PortOp.keeps ?_)
    exact .of_frame rfl rfl rfl rfl (fun _ => Iff.rfl) id rfl fun _ => hext
  timer hs _ _ := by
    refine hs.trans (State.PortOp.keeps ?_)
    exact .of_frame rfl rfl rfl rfl (fun _ => Iff.rfl) id rfl id

/-- Every step keeps the capacities, the sequence numbers and the channels in order. -/
theorem step_keeps {s t : State} (ht : step s = .next t) : State.Keeps s t :=
  (State.keeps_keptByEvents s).step (.refl s) ht

end Sys2Proof.Machine
end

section
/-! The memory port in order (chapters 3, 5 and 6): the invariants of the port state, the processor bus, the sequencer
and the open row, taken together, and what the operations of the sequencer need for them. -/
namespace Sys2Proof.Machine

/-! ### The invariants of the port -/

/-- The invariants about what `State.portView` shows. -/
structure State.PortInv (s : State) : Prop where
  port : s.PortOk
  pbi : s.PbiOk
  mseq : s.MseqOk
  record : s.RecordOk
  entries : ∀ r : Fin 4, (s.rgd.regions.get r).wf = true

theorem State.Inv.portInv {s : State} (h : s.Inv) : s.PortInv :=
  ⟨h.port, h.pbi, h.mseq, h.record, h.tables.2.1⟩

theorem Work.holderOk_congr {s t : State} (hholder : t.parb.holder = s.parb.holder)
    (hstep : t.rpc.parkStep = s.rpc.parkStep) (hport : t.rpc.portState = s.rpc.portState) (w : Work) :
    w.holderOk t = w.holderOk s := by
  cases w <;> simp only [Work.holderOk, hholder, hstep, hport]

theorem State.PortInv.of_view {s t : State} (h : s.PortInv) (hv : t.portView = s.portView) : t.PortInv := by
  simp only [State.portView, Prod.mk.injEq] at hv
  obtain ⟨hpbi, hholder, hmseq, hrpc, hregions⟩ := hv
  obtain ⟨hport, hbus, hop, hrow, hwf⟩ := h
  have hwork := Work.holderOk_congr hholder (congrArg Rpc.parkStep hrpc) (congrArg Rpc.portState hrpc)
  constructor
  · simpa only [State.PortOk, hrpc, hregions] using hport
  · simpa only [State.PbiOk, hpbi, hholder, hregions] using hbus
  · simpa only [State.MseqOk, hmseq, hholder, hrpc, hregions, hwork] using hop
  · simpa only [State.RecordOk, hmseq, hrpc, hregions] using hrow
  · simpa only [hregions] using hwf

/-- The clauses of `State.RecordOk` that are about the record alone. -/
structure State.RowOk (s : State) : Prop where
  fresh : ∀ r ∈ s.mseq.record, r.stale = none → (s.rgd.regions.get r.region).isDynamic = true
  penalty : ∀ r ∈ s.mseq.record, ∀ p ∈ r.stale, 1 ≤ p ∧ p ≤ 4
  asleep : s.rpc.portState = .parked ∨ s.rpc.portState = .waking → s.mseq.record = none

/-- The invariants of the port but for those about the operation in progress. -/
structure State.PortBase (s : State) : Prop where
  port : s.PortOk
  pbi : s.PbiOk
  gate : s.parb.holder ≠ .none →
    s.rpc.portState = .running ∨ s.rpc.portState = .draining ∧ s.rpc.parkStep = false
  row : s.RowOk
  entries : ∀ r : Fin 4, (s.rgd.regions.get r).wf = true

theorem State.PortInv.base {s : State} (h : s.PortInv) : s.PortBase :=
  have ⟨hfresh, hpenalty, hasleep, _⟩ := h.record
  have ⟨_, _, _, hgate⟩ := h.mseq
  ⟨h.port, h.pbi, hgate, ⟨hfresh, hpenalty, hasleep⟩, h.entries⟩

/-- A piece of work whose requester holds the grant, with its accesses as captured (R27, R52). -/
structure State.WorkOk (s : State) (w : Work) : Prop where
  holder : w.holderOk s = true
  accesses : ∀ a ∈ w.accesses, a.Ok s.rgd.regions

theorem State.PortInv.work {s : State} (h : s.PortInv) {o : Operation} (ho : s.mseq.op = some o) :
    o.kindOk = true ∧ s.WorkOk o.work := by
  obtain ⟨_, hop, _⟩ := h.mseq
  obtain ⟨hkind, hholder, haccess, _⟩ := hop o ho
  exact ⟨hkind, hholder, haccess⟩

/-- Work at the port keeps it from being idle (R46). -/
theorem State.WorkOk.busy {s : State} {w : Work} (h : s.WorkOk w) :
    ¬ (s.parb.holder = .none ∧ s.rpc.parkStep = false ∧ s.rpc.portState ≠ .waking) := by
  rintro ⟨hholder, hstep, hport⟩
  have hw := h.holder
  cases w <;> simp_all [Work.holderOk]

/-- The port at rest: no operation, no holder, no park step and no wake (R46, R58). -/
theorem State.PortBase.rest {s : State} (h : s.PortBase) (hop : s.mseq.op = none) (hext : s.mseq.extension = 0)
    (hholder : s.parb.holder = .none) (hstep : s.rpc.parkStep = false) (hport : s.rpc.portState ≠ .waking) :
    s.PortInv where
  port := h.port
  pbi := h.pbi
  mseq := ⟨iff_of_true hop ⟨hholder, hstep, hport⟩, by simp [hop], fun _ => hext, h.gate⟩
  record := ⟨h.row.fresh, h.row.penalty, h.row.asleep, by simp [hop]⟩
  entries := h.entries

/-- An operation in progress that fits its work and the record. -/
theorem State.PortBase.inProgress {s : State} (h : s.PortBase) {o : Operation} (ho : s.mseq.op = some o)
    (hkind : o.kindOk = true) (hwork : s.WorkOk o.work)
    (hext : o.kind ≠ .read → o.kind ≠ .write → s.mseq.extension = 0)
    (hrecord : o.kind = .rowOpen ∨ o.kind = .refresh ∨ o.kind = .selfRefreshEnter → s.mseq.record = none) :
    s.PortInv where
  port := h.port
  pbi := h.pbi
  mseq := by
    refine ⟨iff_of_false (by simp [ho]) hwork.busy, ?_, by simp [ho], h.gate⟩
    simpa [ho] using ⟨hkind, hwork.holder, hwork.accesses, hext⟩
  record := ⟨h.row.fresh, h.row.penalty, h.row.asleep, by simpa [ho] using hrecord⟩
  entries := h.entries

/-! ### Operations that begin -/

theorem State.RowOk.startOp {s : State} (h : s.RowOk) (w : Work) (k : OpKind) : (s.startOp w k).RowOk := by
  by_cases hk : k = .selfRefreshEnter
  · constructor <;> simp [hk]
  · constructor
    · simpa [hk] using h.fresh
    · simpa [hk] using h.penalty
    · simpa [hk] using h.asleep

theorem State.PortBase.startOp {s : State} (h : s.PortBase) {w : Work} {k : OpKind}
    (hkind : Operation.kindOk { kind := k, left := opClocks w k, work := w } = true) (hwork : s.WorkOk w)
    (hrecord : k = .rowOpen ∨ k = .refresh → s.mseq.record = none) : (s.startOp w k).PortInv := by
  have hbase : (s.startOp w k).PortBase := ⟨h.port, h.pbi, h.gate, h.row.startOp w k, h.entries⟩
  refine hbase.inProgress rfl hkind ⟨?_, hwork.accesses⟩ (fun _ _ => rfl) ?_
  · rw [Work.holderOk_congr rfl rfl rfl]
    exact hwork.holder
  · rintro (hk | hk | hk)
    · exact (if_neg (by simp [show k = .rowOpen from hk])).trans (hrecord (.inl hk))
    · exact (if_neg (by simp [show k = .refresh from hk])).trans (hrecord (.inr hk))
    · exact if_pos hk

theorem Access.mainOp_eq (a : Access) : a.mainOp = .read ∧ a.dir = .read ∨ a.mainOp = .write ∧ a.dir = .write := by
  cases h : a.dir <;> simp [Access.mainOp, h]

/-- The next operation of an access (R60): a row closed, a row opened with none open, or the access itself. -/
theorem nextForAccess_cases (t : Quad RegionEntry) (rec : Option OpenRow) (a : Access) :
    (∃ r p, nextForAccess t rec a = .rowClose r p) ∨
    (nextForAccess t rec a = .rowOpen ∧ rec = none ∧ a.entry.kind = .dynamic) ∨
    nextForAccess t rec a = a.mainOp := by
  unfold nextForAccess
  repeat' split
  all_goals simp_all

theorem Access.Ok.isDynamic {t : Quad RegionEntry} {a : Access} (h : a.Ok t) (hk : a.entry.kind = .dynamic) :
    a.entry.isDynamic = true :=
  RegionEntry.isDynamic_iff.mpr ⟨(RegionEntry.contains_iff.mp h.1).1, hk⟩

/-- The next operation of an access fits work that is about that access. -/
theorem nextForAccess_ok {t : Quad RegionEntry} {rec : Option OpenRow} {a : Access} {w : Work} (ha : a.Ok t)
    (hw : w.access = some a) (left : Nat) :
    Operation.kindOk { kind := nextForAccess t rec a, left := left, work := w } = true ∧
      (nextForAccess t rec a = .rowOpen ∨ nextForAccess t rec a = .refresh → rec = none) := by
  rcases nextForAccess_cases t rec a with ⟨r, p, hk⟩ | ⟨hk, hrec, hdyn⟩ | hk <;> rw [hk]
  · refine ⟨?_, by simp⟩
    cases w <;> simp_all [Operation.kindOk, Work.access]
  · exact ⟨by simp [Operation.kindOk, hw, ha.isDynamic hdyn], fun _ => hrec⟩
  · rcases a.mainOp_eq with ⟨hm, hd⟩ | ⟨hm, hd⟩ <;> rw [hm] <;> simp [Operation.kindOk, hw, hd]

theorem nextKind_ok {s : State} {w : Work} {k : OpKind} (hwork : s.WorkOk w)
    (hk : nextKind s.rgd.regions s.mseq.record w = some k) (left : Nat) :
    Operation.kindOk { kind := k, left := left, work := w } = true ∧
      (k = .rowOpen ∨ k = .refresh → s.mseq.record = none) := by
  have haccess := hwork.accesses
  cases w with
  | processor a data =>
    cases hk
    exact nextForAccess_ok (haccess a (by simp [Work.accesses])) rfl left
  | unitRead n src dst =>
    cases hk
    exact nextForAccess_ok (haccess src (by simp [Work.accesses])) rfl left
  | unitWrite n dst byte =>
    cases hk
    exact nextForAccess_ok (haccess dst (by simp [Work.accesses])) rfl left
  | refresh sel =>
    cases hrec : s.mseq.record <;> simp only [nextKind, hrec] at hk <;> cases hk <;> simp [Operation.kindOk]
  | enter sel =>
    cases hk
    unfold afterStale
    repeat' split
    all_goals simp [Operation.kindOk]
  | parkClose =>
    cases hrec : s.mseq.record <;> simp only [nextKind, hrec] at hk
    · cases hk
    · split at hk <;> cases hk
      simp [Operation.kindOk]
  | wakeUp sel =>
    cases hk
    simp [Operation.kindOk]
  | timeoutClose => cases hk

theorem State.PortBase.beginWork {s : State} (h : s.PortBase) {w : Work} (hwork : s.WorkOk w)
    (hnext : nextKind s.rgd.regions s.mseq.record w ≠ none) : (s.beginWork w).PortInv := by
  obtain ⟨k, hk⟩ := Option.ne_none_iff_exists'.mp hnext
  obtain ⟨hkind, hrecord⟩ := nextKind_ok hwork hk (opClocks w k)
  rw [State.beginWork_some hk]
  exact h.startOp hkind hwork hrecord

end Sys2Proof.Machine
end

section
/-! The memory port in order: refreshing, parking and waking (chapter 6). -/
namespace Sys2Proof.Machine

/-! ### The interval timer (R76, R77) -/

theorem intervalOf_isSome_iff (rfint : BitVec 12) : (intervalOf rfint).isSome = true ↔ rfint ≠ 0 := by
  have hzero : rfint.toNat = 0 ↔ rfint = 0 := by simp [BitVec.toNat_eq]
  by_cases h : rfint = 0 <;> simp [intervalOf, hzero, h]

theorem intervalOf_range {rfint : BitVec 12} {t : Nat} (h : t ∈ intervalOf rfint) : 1 ≤ t ∧ t ≤ 4095 := by
  have hlt := rfint.isLt
  unfold intervalOf at h
  split at h
  · simp at h
  · simp only [Option.mem_def, Option.some.injEq] at h
    omega

theorem timerStart_isSome_iff (r : Rpc) (dyn : Bool) :
    (timerStart r dyn).isSome = true ↔ r.rfint ≠ 0 ∧ dyn = true ∧ r.timerGate = true := by
  unfold timerStart
  cases dyn <;> cases r.timerGate <;> simp [intervalOf_isSome_iff]

theorem timerStart_range {r : Rpc} {dyn : Bool} {t : Nat} (h : t ∈ timerStart r dyn) : 1 ≤ t ∧ t ≤ 4095 := by
  unfold timerStart at h
  split at h
  · exact intervalOf_range h
  · simp at h

/-! ### The port state -/

theorem Rpc.timerGate_parked {r : Rpc} (h : r.portState = .parked) : r.timerGate = false := by
  simp [Rpc.timerGate, h]

theorem State.PortBase.startWake {s : State} (h : s.PortBase) (hp : s.rpc.portState = .parked) (cause : WakeCause) :
    (s.startWake cause).PortInv := by
  obtain ⟨_, hdebt, hstep, _, htimer, hrange⟩ := h.port
  have hholder : s.parb.holder = .none := by
    by_contra hne
    simpa [hp] using h.gate hne
  refine State.PortBase.startOp (s := { s with rpc := { s.rpc with
    portState := .waking, wakeCause := some cause, sref := false } }) ⟨?_, h.pbi, ?_, ?_, h.entries⟩ rfl ⟨?_, ?_⟩ ?_
  · simp_all [State.PortOk, Rpc.timerGate]
  · simp [hholder]
  · exact ⟨h.row.fresh, h.row.penalty, fun _ => h.row.asleep (.inl hp)⟩
  · simp [Work.holderOk, hholder]
  · simp [Work.accesses]
  · simp

theorem State.PortBase.enterParked {s : State} (h : s.PortBase) (hp : s.rpc.parkStep = true)
    (hrecord : s.mseq.record = none) : s.enterParked.PortInv := by
  obtain ⟨_, hdebt, hstep, hcause, htimer, hrange⟩ := h.port
  have hdrain := hstep hp
  have hholder : s.parb.holder = .none := by
    by_contra hne
    simpa [hp, hdrain] using h.gate hne
  have hbase : State.PortBase { s.idleMseq with
      rpc := { s.rpc with portState := .parked, parkStep := false, sref := true },
      iru := { s.iru with port := true } } := by
    refine ⟨?_, h.pbi, ?_, ⟨h.row.fresh, h.row.penalty, fun _ => hrecord⟩, h.entries⟩
    · simp_all [State.PortOk, Rpc.timerGate]
    · simp [hholder]
  unfold State.enterParked
  dsimp only
  split
  · exact hbase.startWake rfl _
  · exact hbase.rest rfl rfl hholder rfl (by simp)

theorem State.parkStepDue_iff (s : State) :
    s.parkStepDue = true ↔ s.rpc.portState = .draining ∧ s.rpc.parkStep = false ∧ s.parb.holder = .none ∧
      s.rpc.debt = 0 ∧ s.processorClaim = false := by
  simp [State.parkStepDue, and_assoc]

theorem State.PortInv.beginParkStep {s : State} (h : s.PortInv) (hdue : s.parkStepDue = true) :
    s.beginParkStep.PortInv := by
  obtain ⟨hdrain, hstep, hholder, hdebt, _⟩ := s.parkStepDue_iff.mp hdue
  obtain ⟨hsref, _, _, hcause, htimer, hrange⟩ := h.port
  have hbase : State.PortBase { s with rpc := { s.rpc with parkStep := true, timer := none } } := by
    refine ⟨?_, h.pbi, by simp [hholder], { h.base.row with }, h.entries⟩
    simp_all [State.PortOk, Rpc.timerGate]
  unfold State.beginParkStep
  dsimp only
  split
  · exact hbase.beginWork ⟨by simp [Work.holderOk, hholder], by simp [Work.accesses]⟩ (by simp [nextKind])
  next hdyn =>
    split
    next k hk =>
      have hwork : State.WorkOk { s with rpc := { s.rpc with parkStep := true, timer := none } } .parkClose :=
        ⟨by simp [Work.holderOk, hholder], by simp [Work.accesses]⟩
      obtain ⟨hkind, hrecord⟩ := nextKind_ok hwork hk (opClocks .parkClose k)
      exact hbase.startOp hkind hwork hrecord
    next hk =>
      refine hbase.enterParked rfl (Option.eq_none_iff_forall_not_mem.mpr fun r hr => ?_)
      have hstale : r.stale = none := by simpa [nextKind, show s.mseq.record = some r from hr] using hk
      exact hdyn (anyDynamic_iff.mpr ⟨r.region, by simpa [dynamicSelects] using hbase.row.fresh r hr hstale⟩)

/-- The refresh controller replaced, with the park step and the wake as they stand. -/
theorem State.PortInv.setRpc {s : State} (h : s.PortInv) {r : Rpc} (hport : State.PortOk { s with rpc := r })
    (hstep : r.parkStep = s.rpc.parkStep) (hwaking : r.portState = .waking ↔ s.rpc.portState = .waking)
    (hparked : r.portState = .parked → s.rpc.portState = .parked)
    (hgate : s.parb.holder ≠ .none → r.portState = .running ∨ r.portState = .draining ∧ r.parkStep = false) :
    State.PortInv { s with rpc := r } := by
  obtain ⟨hidle, hop, hext, _⟩ := h.mseq
  obtain ⟨hfresh, hpenalty, hasleep, hrecord⟩ := h.record
  refine ⟨hport, h.pbi, ⟨?_, fun o ho => ?_, hext, hgate⟩, ⟨hfresh, hpenalty, ?_, hrecord⟩, h.entries⟩
  · simpa only [ne_eq, hstep, hwaking] using hidle
  · obtain ⟨hkind, hholder, hrest⟩ := hop o ho
    refine ⟨hkind, ?_, hrest⟩
    generalize o.work = w at hholder
    cases w <;> simp_all [Work.holderOk]
  · exact fun hp => hasleep (hp.imp hparked hwaking.mp)

/-- The refresh controller replaced, with the port state and the park step as they stand. -/
theorem State.PortInv.setTimer {s : State} (h : s.PortInv) {r : Rpc} (hport : State.PortOk { s with rpc := r })
    (hstep : r.parkStep = s.rpc.parkStep) (hstate : r.portState = s.rpc.portState) :
    State.PortInv { s with rpc := r } := by
  refine h.setRpc hport hstep (by rw [hstate]) (by rw [hstate]; exact id) ?_
  rw [hstep, hstate]
  exact h.base.gate

theorem State.PortInv.drain {s : State} (h : s.PortInv) (hrun : s.rpc.portState = .running) :
    State.PortInv { s with rpc := { s.rpc with portState := .draining } } := by
  obtain ⟨hsref, hdebt, hstep, hcause, htimer, hrange⟩ := h.port
  have hnostep : s.rpc.parkStep = false := by simpa [hrun] using hstep
  refine h.setRpc ?_ rfl (by simp [hrun]) (by simp) (by simp [hnostep])
  simp_all [State.PortOk, Rpc.timerGate]

theorem State.PortInv.park {s : State} (h : s.PortInv) : s.park.PortInv := by
  unfold State.park
  split
  case h_1 hrun =>
    have hdrain := (h.drain hrun).of_view (State.portView_setResult _ .ok)
    dsimp only
    split
    next hdue => exact hdrain.beginParkStep hdue
    next => exact hdrain
  all_goals exact h.of_view rfl

theorem State.PortInv.wake {s : State} (h : s.PortInv) : s.wake.PortInv := by
  unfold State.wake
  split
  case h_1 hp => exact (h.of_view (t := s.setResult .ok) rfl).base.startWake hp _
  all_goals exact h.of_view rfl

theorem State.PortInv.finishWake {s : State} (h : s.PortInv) (hp : s.rpc.portState = .waking) :
    s.finishWake.PortInv := by
  obtain ⟨hsref, hdebt, hstep, hcause, _, _⟩ := h.port
  have hholder : s.parb.holder = .none := by
    by_contra hne
    simpa [hp] using h.base.gate hne
  have hnostep : s.rpc.parkStep = false := by simpa [hp] using hstep
  refine State.PortBase.rest ⟨?_, h.pbi, by simp [State.finishWake], ?_, h.entries⟩ rfl rfl hholder hnostep
    (by simp [State.finishWake])
  · refine ⟨?_, ?_, ?_, ?_, timerStart_isSome_iff _ _, fun t => timerStart_range⟩ <;> simp_all [State.finishWake]
  · exact ⟨h.base.row.fresh, h.base.row.penalty, by simp [State.finishWake]⟩

theorem State.PortInv.expire {s : State} (h : s.PortInv) (ht : s.rpc.timer.isSome = true) : s.expire.PortInv := by
  obtain ⟨hsref, hdebt, hstep, hcause, htimer, _⟩ := h.port
  obtain ⟨hint, hdyn, hgate⟩ := htimer.mp ht
  have hreload := intervalOf_isSome_iff s.rpc.rfint
  unfold State.expire
  dsimp only
  split
  · refine h.setTimer ⟨hsref, ?_, hstep, hcause, ?_, fun t => intervalOf_range⟩ rfl rfl
    · rintro (hp | hp | hp) <;> simp_all [Rpc.timerGate]
    · exact hreload.trans ⟨fun hne => ⟨hne, hdyn, hgate⟩, fun hc => hc.1⟩
  · refine (h.setTimer (r := { s.rpc with timer := intervalOf s.rpc.rfint })
      ⟨hsref, hdebt, hstep, hcause, ?_, fun t => intervalOf_range⟩ rfl rfl).of_view rfl
    exact hreload.trans ⟨fun hne => ⟨hne, hdyn, hgate⟩, fun hc => hc.1⟩

theorem State.PortInv.writeRfint {s : State} (h : s.PortInv) (high : Bool) (data : Byte) :
    (s.writeRfint high data).PortInv := by
  obtain ⟨hsref, hdebt, hstep, hcause, _, _⟩ := h.port
  exact h.setTimer ⟨hsref, hdebt, hstep, hcause, timerStart_isSome_iff _ _, fun t => timerStart_range⟩ rfl rfl

theorem State.PortInv.writeRfurg {s : State} (h : s.PortInv) (data : Byte) : (s.writeRfurg data).PortInv := by
  unfold State.writeRfurg
  split
  · exact h.setTimer h.port rfl rfl
  · exact h

end Sys2Proof.Machine
end

section
/-! The memory port in order: the processor's cycles (chapter 3), and how a grant ends (R52). -/
namespace Sys2Proof.Machine

/-! ### The PBI replaced -/

/-- The invariants of the port but for the PBI's are about the rest of what `State.portView` shows. -/
theorem State.PortInv.of_rest {s t : State} (h : s.PortInv) (hv : t.portView.2 = s.portView.2) (hpbi : t.PbiOk) :
    t.PortInv := by
  have heq : State.portView { s with pbi := t.pbi } = t.portView := Prod.ext rfl hv.symm
  simp only [State.portView, Prod.mk.injEq] at hv
  obtain ⟨hholder, hmseq, hrpc, hregions⟩ := hv
  have hpbi' : State.PbiOk { s with pbi := t.pbi } := by simpa only [State.PbiOk, hholder, hregions] using hpbi
  have hop : State.PortInv { s with pbi := t.pbi } := ⟨h.port, hpbi', h.mseq, h.record, h.entries⟩
  exact hop.of_view heq.symm

theorem State.PortInv.setPbi {s : State} (h : s.PortInv) {p : Pbi} (hp : State.PbiOk { s with pbi := p }) :
    State.PortInv { s with pbi := p } := h.of_rest rfl hp

theorem State.PbiOk.readOut_none {s : State} (h : s.PbiOk) (hp : s.pbi.phase ≠ .idle) : s.pbi.readOut = none := by
  by_contra hr
  exact hp (h.2.2.2.2.2.2.2 hr).1

/-! ### Cycles that end -/

theorem State.PortInv.released {s : State} (h : s.PortInv) : s.released.PortInv := by
  obtain ⟨hidle, hending, hclaimed, hactive, hmemc, hheld, hholder, _⟩ := h.pbi
  exact h.setPbi ⟨hidle, hending, hclaimed, hactive, hmemc, hheld, hholder, fun hr => absurd rfl hr⟩

theorem State.PortInv.endCycle {s : State} (h : s.PortInv) : s.endCycle.PortInv := by
  obtain ⟨hidle, hending, hclaimed, hactive, hmemc, hheld, hholder, hread⟩ := h.pbi
  unfold State.endCycle
  cases hp : s.pbi.phase <;> refine h.setPbi ?_ <;> simp_all [State.PbiOk]

/-- The bus a window cycle is served on: quiet, with no register read under way (R31, R153). -/
structure State.Served (s : State) : Prop where
  phase : s.pbi.phase = .idle
  memc : s.pbi.memc = false
  held : s.pbi.held = none
  readOut : s.pbi.readOut = none

theorem State.PortInv.newCycle {s : State} (h : s.PortInv) : s.newCycle.PortInv := by
  unfold State.newCycle
  split
  · exact h.endCycle.released
  · exact h.released

@[simp] theorem State.endCycle_memc (s : State) : s.endCycle.pbi.memc = false := by
  unfold State.endCycle
  split <;> rfl

@[simp] theorem State.endCycle_held (s : State) : s.endCycle.pbi.held = s.pbi.held := by
  unfold State.endCycle
  split <;> rfl

@[simp] theorem State.newCycle_memc (s : State) : s.newCycle.pbi.memc = false := by
  cases hm : s.pbi.memc <;> simp [State.newCycle, hm]

@[simp] theorem State.newCycle_held (s : State) : s.newCycle.pbi.held = s.pbi.held := by
  cases hm : s.pbi.memc <;> simp [State.newCycle, hm]

theorem State.PortInv.newCycle_served {s : State} (h : s.PortInv) (hh : s.pbi.held = none)
    (hb : s.newCycle.pbi.phase.busy = false) : s.newCycle.Served := by
  obtain ⟨_, _, _, hactive, _⟩ := h.newCycle.pbi
  refine ⟨?_, s.newCycle_memc, by rw [s.newCycle_held, hh], rfl⟩
  cases hp : s.newCycle.pbi.phase <;> simp_all [Phase.busy]

theorem State.PortInv.hold {s : State} (h : s.PortInv) (hb : s.pbi.phase.busy = true) {m : Bool} {k : HeldCycle}
    (hk : k = .window → m = false) : State.PortInv { s with pbi := { s.pbi with memc := m, held := some k } } := by
  obtain ⟨hidle, hending, hclaimed, hactive, hmemc, hheld, hholder, hread⟩ := h.pbi
  refine h.setPbi ?_
  cases hp : s.pbi.phase <;> simp_all [State.PbiOk, Phase.busy]

/-- A register window cycle keeps the port in order when what it serves does on the quiet bus (R43, R153). -/
theorem State.PortInv.windowCycle {s : State} (h : s.PortInv) {f : State → State}
    (hf : ∀ u : State, u.PortInv → u.Served → (f u).PortInv) : (s.windowCycle f).PortInv := by
  unfold State.windowCycle
  dsimp only
  split
  · exact h
  next hh =>
    split
    next hb =>
      have hhold := h.newCycle.hold hb (m := false) (k := .window) (fun _ => rfl)
      rwa [← s.newCycle_memc] at hhold
    next hb => exact hf _ h.newCycle (h.newCycle_served (by simpa using hh) (by simpa using hb))

/-! ### The lookup of a memory cycle (R32 to R39) -/

/-- The release leaves the PBI in order where no register read is under way and the grant has gone. -/
theorem State.releaseProcessor_pbiOk {s : State} (hread : s.pbi.readOut = none)
    (hheld : s.pbi.held = some .window → s.pbi.memc = false) (hholder : s.parb.holder ≠ .processor)
    (c : CycleRecord) : (s.releaseProcessor c).PbiOk := by
  unfold State.releaseProcessor
  split
  next hactive => simp [State.PbiOk, hactive, hread, hholder]
  next hactive =>
    simp only [State.PbiOk]
    cases hk : s.pbi.held with
    | none => simp_all
    | some k => cases k <;> simp_all

@[simp] theorem State.portView_releaseProcessor (s : State) (c : CycleRecord) :
    (s.releaseProcessor c).portView.2 = s.portView.2 := by
  unfold State.releaseProcessor
  split <;> rfl

theorem State.faultCycle_portView (s : State) (c : CycleRecord) (kind : FaultKind) :
    ∃ d, (s.faultCycle c kind).portView = (s.releaseProcessor d).portView := by
  refine ⟨{ c with readData := if c.dir = .read then some 0xFF else c.readData }, ?_⟩
  unfold State.faultCycle State.releaseProcessor State.fileFault
  split <;> split <;> rfl

theorem CycleRecord.claimed_claimedCycle {t : Quad RegionEntry} {pa : PhysAddr} {dir : Direction} {n : Fin 4}
    (h : regionVerdict t pa dir = .region n) (pins : BusPins) : (claimedCycle pins dir pa n).claimed t = true := by
  cases dir <;> simp_all [CycleRecord.claimed, claimedCycle, freshCycle]

theorem State.PortInv.raiseClaim {s : State} (h : s.PortInv) {c : CycleRecord} (hc : c.claimed s.rgd.regions = true)
    (hread : s.pbi.readOut = none) (hp : s.pbi.phase = .idle)
    (hheld : s.pbi.held = none) (m : Bool) :
    (State.raiseClaim { s with pbi := { s.pbi with memc := m } } c).PortInv := by
  have hholder : s.parb.holder ≠ .processor := by simp [← h.pbi.2.2.2.2.2.2.1, hp]
  have hwait : State.PortInv { s with pbi := { s.pbi with memc := m, phase := .waiting, cycle := some c } } :=
    h.setPbi (by simp [State.PbiOk, hc, hread, hheld, hholder])
  unfold State.raiseClaim
  dsimp only
  split
  next hparked => exact hwait.base.startWake hparked _
  next => exact hwait

theorem State.PortInv.lookUpCycle {s : State} (h : s.PortInv) (hs : s.Served) (m : Bool) (pins : BusPins) :
    (State.lookUpCycle { s with pbi := { s.pbi with memc := m } } pins).PortInv := by
  have hholder : s.parb.holder ≠ .processor := by simp [← h.pbi.2.2.2.2.2.2.1, hs.phase]
  rcases State.lookUpCycle_cases s.wtu s.rgd.regions pins with ⟨c, hc⟩ | ⟨c, kind, hc⟩ | ⟨dir, pa, n, hn, hc⟩
  · rw [hc { s with pbi := { s.pbi with memc := m } } rfl rfl]
    unfold State.standAside
    split <;> refine h.setPbi ?_ <;> simp_all [State.PbiOk, hs.held, hs.readOut]
  · rw [hc { s with pbi := { s.pbi with memc := m } } rfl rfl]
    obtain ⟨d, hd⟩ := State.faultCycle_portView { s with pbi := { s.pbi with memc := m } } c kind
    refine State.PortInv.of_view (h.of_rest ?_ ?_) hd
    · rw [State.portView_releaseProcessor]
      rfl
    · exact State.releaseProcessor_pbiOk (s := { s with pbi := { s.pbi with memc := m } }) hs.readOut
        (by simp [hs.held]) hholder d
  · rw [hc { s with pbi := { s.pbi with memc := m } } rfl rfl]
    exact h.raiseClaim (CycleRecord.claimed_claimedCycle hn pins) hs.readOut hs.phase hs.held m

theorem State.PortInv.beginMemoryCycle {s : State} (h : s.PortInv) (pins : BusPins) :
    (s.beginMemoryCycle pins).PortInv := by
  unfold State.beginMemoryCycle
  dsimp only
  split
  · exact h
  next hh =>
    have hheld : s.pbi.held = none := by simpa using hh
    cases hb : s.newCycle.pbi.phase.busy with
    | false =>
      have hs := h.newCycle_served hheld hb
      rw [if_pos hs.phase]
      exact h.newCycle.lookUpCycle hs true pins
    | true =>
      rw [if_neg (by rintro hp; simp [hp, Phase.busy] at hb)]
      exact h.newCycle.hold hb (by simp)

/-! ### Held cycles and ended cycles (R42, R43) -/

/-- A served register window read drives D0 to D7 (R153). -/
theorem State.PortInv.readAt {s : State} (h : s.PortInv) (hs : s.Served) (off : Offset) : (s.readAt off).PortInv := by
  have hdrive : ∀ b, State.PortInv { s with pbi := { s.pbi with readOut := some b } } := fun b => by
    have hbus := h.pbi
    exact h.setPbi (by simp_all [State.PbiOk, hs.phase, hs.memc, hs.held])
  unfold State.readAt
  split
  · exact (hdrive _).of_view (t := s.readChstat) rfl
  · exact hdrive _

theorem exec_cycleEnd_portInv {s : State} (h : s.PortInv) : ∃ t, execCycleEnd s = .next t ∧ t.PortInv := by
  unfold execCycleEnd
  split
  · exact ⟨_, rfl, h.endCycle⟩
  · exact ⟨_, rfl, h.released⟩

end Sys2Proof.Machine
end

section
/-! The memory port in order: the end of a grant, the grants, and the completions of the sequencer (chapters 4
and 5). -/
namespace Sys2Proof.Machine

/-! ### A grant that passes on or ends (R52, R55) -/

theorem State.RowOk.congr {s t : State} (h : s.RowOk) (hrecord : t.mseq.record = s.mseq.record) (hrpc : t.rpc = s.rpc)
    (hregions : t.rgd.regions = s.rgd.regions) : t.RowOk := by
  constructor
  · simpa only [hrecord, hregions] using h.fresh
  · simpa only [hrecord] using h.penalty
  · simpa only [hrecord, hrpc] using h.asleep

theorem State.RowOk.of_none {s : State} (h : s.mseq.record = none) : s.RowOk := by
  constructor <;> simp [h]

/-- The holder changes, the processor neither gaining nor losing the grant. -/
theorem State.PbiOk.setHolder {s : State} (h : s.PbiOk) (hs : s.parb.holder ≠ .processor) {x : Holder}
    (hx : x ≠ .processor) : State.PbiOk { s with parb := { s.parb with holder := x } } := by
  obtain ⟨hidle, hending, hclaimed, hactive, hmemc, hheld, hholder, hread⟩ := h
  refine ⟨hidle, hending, hclaimed, hactive, hmemc, hheld, iff_of_false (fun hp => hs (hholder.mp hp)) hx, hread⟩

theorem State.PbiOk.congr {s t : State} (h : s.PbiOk) (hpbi : t.pbi = s.pbi) (hholder : t.parb.holder = s.parb.holder)
    (hregions : t.rgd.regions = s.rgd.regions) : t.PbiOk := by
  simpa only [State.PbiOk, hpbi, hholder, hregions] using h

section
variable {s t : State} (h : s.PortInv) (hbusy : s.parb.holder ≠ .none) (hrpc : t.rpc = s.rpc)
  (hregions : t.rgd.regions = s.rgd.regions) (hpbi : t.PbiOk) (hrow : t.RowOk)
include h hbusy hrpc hregions hpbi hrow

theorem State.PortInv.handOver : t.PortBase where
  port := by simpa only [State.PortOk, hrpc, hregions] using h.port
  pbi := hpbi
  gate _ := by simpa only [hrpc] using h.base.gate hbusy
  row := hrow
  entries := by simpa only [hregions] using h.entries

theorem State.PortInv.freed (hop : t.mseq.op = none) (hext : t.mseq.extension = 0) (hfree : t.parb.holder = .none) :
    t.PortInv := by
  obtain ⟨_, _, hstep, _⟩ := h.port
  refine (h.handOver hbusy hrpc hregions hpbi hrow).rest hop hext hfree ?_ ?_
  · rw [hrpc]
    rcases h.base.gate hbusy with hrun | ⟨_, hno⟩
    · simpa [hrun] using hstep
    · exact hno
  · rw [hrpc]
    rcases h.base.gate hbusy with hrun | ⟨hdrain, _⟩ <;> simp [*]

end

section
variable {s : State} (h : s.PortInv) (hbusy : s.parb.holder ≠ .none)
include h hbusy

theorem State.PortInv.endGrantWith (hproc : s.parb.holder ≠ .processor) {rec : Option OpenRow}
    (hrow : State.RowOk (s.setRecord rec)) : (s.setRecord rec).endGrant.PortInv :=
  h.freed hbusy rfl rfl (h.pbi.setHolder hproc (by simp)) { hrow with } rfl rfl rfl

theorem State.PortInv.endGrant (hproc : s.parb.holder ≠ .processor) : s.endGrant.PortInv :=
  h.endGrantWith hbusy hproc (rec := s.mseq.record) { h.base.row with }

end

/-- A channel loses its grant: the unit in progress is left to finish under RESIDUAL (R55). -/
theorem State.PortInv.giveUpGrant {s : State} (h : s.PortInv) {n : Fin 4} (hholder : s.parb.holder = .channel n) :
    s.giveUpGrant.PortInv := by
  have hbusy : s.parb.holder ≠ .none := by simp [hholder]
  have hproc : s.parb.holder ≠ .processor := by simp [hholder]
  rcases s.giveUpGrant_cases with ⟨heq, hop⟩ | ⟨heq, -⟩ <;> rw [heq]
  · obtain ⟨o, ho⟩ := Option.ne_none_iff_exists'.mp hop
    obtain ⟨hkind, hwork⟩ := h.work ho
    obtain ⟨_, hall, _⟩ := h.mseq
    obtain ⟨_, _, _, hext⟩ := hall o ho
    obtain ⟨_, _, _, hrecord⟩ := h.record
    have hbase : State.PortBase { s with parb := { s.parb with holder := .residual } } :=
      h.handOver hbusy rfl rfl (h.pbi.setHolder hproc (by simp)) { h.base.row with }
    refine hbase.inProgress ho hkind ⟨?_, hwork.accesses⟩ hext (hrecord o ho)
    have hold := hwork.holder
    generalize o.work = w at hold
    cases w <;> simp_all [Work.holderOk]
  · exact h.endGrant hbusy hproc

/-! ### Grants (R48 to R52, R63) -/

theorem captureAccess_ok {t : Quad RegionEntry} {dir : Direction} {addr : PhysAddr} {n : Fin 4}
    (hwf : (t.get n).wf = true) (hn : regionOf t addr = some n) (hd : dir = .write → (t.get n).writeProtect = false) :
    (captureAccess t dir addr n).Ok t :=
  ⟨regionOf_some hn, hwf, hd, fun _ _ => rfl⟩

/-- A unit that passes its check begins with both ends captured in order (R27, R63). -/
theorem State.PortBase.beginUnit {s : State} (h : s.PortBase) {n : Fin 4} (hholder : s.parb.holder = .channel n)
    {d : Descriptor} {src dst : Fin 4} (hpass : unitVerdict s.rgd.regions d.curSrc d.curDst = .pass src dst) :
    (s.beginUnit n d src dst).PortInv := by
  obtain ⟨hsrc, hdst, hprotect⟩ := unitVerdict_pass_iff.mp hpass
  refine h.beginWork ⟨by simp [Work.holderOk, hholder, captureAccess], ?_⟩ (by simp [nextKind])
  simp only [Work.accesses, List.mem_cons, List.not_mem_nil, or_false, forall_eq_or_imp, forall_eq]
  exact ⟨captureAccess_ok (h.entries src) hsrc (by simp), captureAccess_ok (h.entries dst) hdst fun _ => hprotect⟩

theorem State.decision_gate {s : State} {x : Claimant} (h : s.decision = some x) :
    s.rpc.portState = .running ∨ s.rpc.portState = .draining ∧ s.rpc.parkStep = false := by
  unfold State.decision at h
  split at h <;> simp_all

theorem State.decision_processor {s : State} (h : s.decision = some .processor) : s.pbi.phase = .waiting := by
  unfold State.decision at h
  repeat' split at h
  all_goals simp_all [State.processorClaim]

theorem State.PortBase.setChan {s : State} (h : s.PortBase) (n : Fin 4) (c : Channel) : (s.setChan n c).PortBase :=
  ⟨h.port, h.pbi, h.gate, { h.row with }, h.entries⟩

theorem State.PortBase.idleMseq {s : State} (h : s.PortBase) : s.idleMseq.PortBase :=
  ⟨h.port, h.pbi, h.gate, { h.row with }, h.entries⟩

section
variable {s : State} (h : s.PortInv)
  (hgate : s.rpc.portState = .running ∨ s.rpc.portState = .draining ∧ s.rpc.parkStep = false)
include h hgate

theorem State.PortInv.claimed (hproc : s.parb.holder ≠ .processor) {x : Holder} (hx : x ≠ .processor) :
    State.PortBase { s with parb := { s.parb with holder := x } } :=
  ⟨h.port, h.pbi.setHolder hproc hx, fun _ => hgate, { h.base.row with }, h.entries⟩

theorem State.PortInv.grantRefresh (hfree : s.parb.holder = .none) : s.grantRefresh.PortInv := by
  refine (h.claimed hgate (by simp [hfree]) (by simp)).beginWork ⟨by simp [Work.holderOk], by simp [Work.accesses]⟩ ?_
  unfold nextKind
  dsimp only
  split <;> simp

theorem State.PortInv.grantProcessor (hwait : s.pbi.phase = .waiting) :
    s.grantProcessor.PortInv := by
  obtain ⟨hidle, hending, hclaimed, hactive, hmemc, hheld, hholder, hread⟩ := h.pbi
  unfold State.grantProcessor
  split
  · exact h
  next c hc =>
    have hcl : c.claimed s.rgd.regions = true := by simpa [hc] using hclaimed (.inl hwait)
    split
    next pa r hpa hr =>
      have hverdict : regionVerdict s.rgd.regions pa c.dir = .region r := by
        have := hcl
        simp only [CycleRecord.claimed, hpa, hr, Bool.and_eq_true, beq_iff_eq] at this
        exact this.1
      obtain ⟨hregion, hdir⟩ := regionVerdict_region_iff.mp hverdict
      have hbase : State.PortBase
          { s with parb := { s.parb with holder := .processor }, pbi := { s.pbi with phase := .access } } := by
        refine ⟨h.port, ?_, fun _ => hgate, { h.base.row with }, h.entries⟩
        simp_all [State.PbiOk]
      refine hbase.beginWork ⟨by simp [Work.holderOk], ?_⟩ (by simp [nextKind])
      simp only [Work.accesses, List.mem_singleton, forall_eq]
      exact captureAccess_ok (h.entries r) hregion fun hd => hdir.resolve_left (by simp [hd])
    next => exact h

theorem State.PortInv.grantChannel (hfree : s.parb.holder = .none) (n : Fin 4) : (s.grantChannel n).PortInv := by
  unfold State.grantChannel
  dsimp only
  split
  next limit d rest hport hqueue =>
    split
    next src dst hpass =>
      have hbase := h.claimed hgate (by simp [hfree]) (x := .channel n) (by simp)
      have hpointer : State.PortBase { s with parb := { s.parb with holder := .channel n, pointer := n } } :=
        ⟨hbase.port, hbase.pbi, hbase.gate, { hbase.row with }, hbase.entries⟩
      exact (hpointer.setChan n _).beginUnit rfl hpass
    next => exact h.of_view (s.portView_failUnit n _ _ _)
  next => exact h

end

theorem State.PortInv.grantDecision {s : State} (h : s.PortInv) : s.grantDecision.PortInv := by
  unfold State.grantDecision
  split
  next hfree =>
    split
    next hd => exact h.grantRefresh (State.decision_gate hd) hfree
    next hd => exact h.grantProcessor (State.decision_gate hd) (State.decision_processor hd)
    next n hd => exact h.grantChannel (State.decision_gate hd) hfree n
    next => exact h
  next => exact h

/-! ### Completions of the sequencer (R40, R63 to R65, R68 to R71, R110) -/

theorem State.WorkOk.busy_of_access {s : State} {w : Work} (h : s.WorkOk w) {a : Access} (ha : w.access = some a) :
    s.parb.holder ≠ .none ∧ a.Ok s.rgd.regions := by
  have hholder := h.holder
  refine ⟨fun hnone => ?_, h.accesses a ?_⟩
  · cases w <;> simp_all [Work.holderOk, Work.access]
  · cases w <;> simp_all [Work.access, Work.accesses]

theorem State.PortInv.finishAccess {s : State} (h : s.PortInv) (hholder : s.parb.holder = .processor) (md : Byte) :
    (s.finishAccess md).PortInv := by
  obtain ⟨_, _, hclaimed, _, _, hheld, hphase, _⟩ := h.pbi
  have haccess := hphase.mpr hholder
  unfold State.finishAccess
  split
  next c hc =>
    generalize ({ c with readData := if c.dir = .read then some md else c.readData } : CycleRecord) = d
    have hview := s.endGrant.portView_releaseProcessor d
    simp only [State.portView, Prod.mk.injEq] at hview
    obtain ⟨hfree, hmseq, hrpc, hregions⟩ := hview
    have hpbi : (s.endGrant.releaseProcessor d).PbiOk :=
      State.releaseProcessor_pbiOk (s := s.endGrant) (h.pbi.readOut_none (by simp [haccess])) hheld (by simp) d
    refine h.freed (by simp [hholder]) hrpc hregions hpbi ?_ (by simp [hmseq]) (by simp [hmseq]) hfree
    exact h.base.row.congr (by simp [hmseq]) hrpc hregions
  next hc => simp [hc, haccess] at hclaimed

/-- The WRITE half of a unit whose READ has completed (R63). -/
theorem State.WorkOk.unitWrite {s : State} {n : Fin 4} {src dst : Access} (h : s.WorkOk (.unitRead n src dst))
    (md : Byte) : s.WorkOk (.unitWrite n dst md) := by
  have hholder := h.holder
  refine ⟨by simp_all [Work.holderOk], fun a ha => h.accesses a ?_⟩
  simp only [Work.accesses, List.mem_singleton] at ha
  simp [Work.accesses, ha]

theorem State.PortInv.finishRead {s : State} (h : s.PortInv) {o : Operation} (ho : s.mseq.op = some o) {n : Fin 4}
    {src dst : Access} (hwork : o.work = .unitRead n src dst) (md : Byte) : (s.finishRead n dst md).PortInv := by
  obtain ⟨_, hunit⟩ := h.work ho
  rw [hwork] at hunit
  obtain ⟨hholder, haccess⟩ := hunit.unitWrite md
  exact (h.of_view (State.portView_setChan s n _)).base.beginWork ⟨hholder, haccess⟩ (by simp [nextKind])

theorem State.PortInv.finishUnit {s : State} (h : s.PortInv) {n : Fin 4} (hholder : s.parb.holder = .channel n) :
    (s.finishUnit n).PortInv := by
  have hended := h.endGrant (by simp [hholder]) (by simp [hholder])
  unfold State.finishUnit
  dsimp only
  split
  · exact hended.of_view (by simp)
  split
  · exact hended.of_view (by simp)
  split
  · exact hended.of_view (by simp)
  split
  · split
    next src dst hpass =>
      exact (h.base.idleMseq.setChan n _).beginUnit hholder hpass
    next => exact hended.of_view (by simp)
  · exact hended.of_view (by simp)

/-- The record a completed ROW_OPEN writes (R64, R66). -/
theorem Access.openRow_ok {t : Quad RegionEntry} {a : Access} (h : a.Ok t) (hdyn : a.entry.isDynamic = true) :
    (a.openRow.stale = none → (t.get a.openRow.region).isDynamic = true) ∧
      ∀ p ∈ a.openRow.stale, 1 ≤ p ∧ p ≤ 4 := by
  obtain ⟨_, hwf, _, hfresh⟩ := h
  have hpenalty := (RegionEntry.wf_iff.mp hwf).2 (RegionEntry.isDynamic_iff.mp hdyn).2
  unfold Access.openRow
  cases hs : a.staleMark
  · simp [hfresh hs hdyn, hdyn]
  · simpa using hpenalty

end Sys2Proof.Machine
end

section
/-! The memory port in order: rows, TIMEOUT and the end of a residual operation (chapter 5), the request
lines and the resets. -/
namespace Sys2Proof.Machine

/-! ### Rows (R64 to R66) -/

theorem State.PortInv.awake {s : State} (h : s.PortInv) (hbusy : s.parb.holder ≠ .none) :
    ¬ (s.rpc.portState = .parked ∨ s.rpc.portState = .waking) := by
  rcases h.base.gate hbusy with hrun | ⟨hdrain, _⟩ <;> simp [*]

theorem State.PortInv.openRow {s : State} (h : s.PortInv) (hbusy : s.parb.holder ≠ .none) {a : Access}
    (ha : a.Ok s.rgd.regions) (hdyn : a.entry.isDynamic = true) : State.RowOk (s.setRecord (some a.openRow)) := by
  obtain ⟨hfresh, hpenalty⟩ := Access.openRow_ok ha hdyn
  refine ⟨?_, ?_, fun hp => absurd hp (h.awake hbusy)⟩
  · simpa using hfresh
  · simpa using hpenalty

theorem State.PortInv.finishRowOpen {s : State} (h : s.PortInv) {o : Operation} (ho : s.mseq.op = some o)
    (hk : o.kind = .rowOpen) {a : Access} (ha : o.work.access = some a) : (s.finishRowOpen o.work a).PortInv := by
  obtain ⟨hkind, hwork⟩ := h.work ho
  obtain ⟨hbusy, haccess⟩ := hwork.busy_of_access ha
  have hrow := h.openRow hbusy haccess (by simpa [Operation.kindOk, hk, ha] using hkind)
  unfold State.finishRowOpen
  dsimp only
  split
  next hres => exact h.endGrantWith hbusy (by simp [hres]) hrow
  next =>
    have hbase : State.PortBase (s.setRecord (some a.openRow)) := h.handOver hbusy rfl rfl h.pbi hrow
    refine hbase.startOp ?_ ⟨hwork.holder, hwork.accesses⟩ ?_ <;>
      rcases a.mainOp_eq with ⟨hm, hd⟩ | ⟨hm, hd⟩ <;> simp [Operation.kindOk, hm, hd, ha]

theorem State.PortBase.noRow {s : State} (h : s.PortBase) : State.PortBase (s.setRecord none) :=
  ⟨h.port, h.pbi, h.gate, .of_none rfl, h.entries⟩

theorem State.PortInv.finishRowClose {s : State} (h : s.PortInv) {o : Operation} (ho : s.mseq.op = some o) :
    (s.finishRowClose o.work).PortInv := by
  obtain ⟨hkind, hwork⟩ := h.work ho
  have hbase := h.base.noRow
  unfold State.finishRowClose
  dsimp only
  split
  next hres => exact h.endGrantWith (by simp [hres]) (by simp [hres]) (.of_none rfl)
  next hres =>
    have hnext (hne : nextKind s.rgd.regions none o.work ≠ none) : ((s.setRecord none).beginWork o.work).PortInv :=
      hbase.beginWork ⟨hwork.holder, hwork.accesses⟩ hne
    generalize o.work = w at hwork hnext
    have hholder := hwork.holder
    cases w with
    | parkClose => exact hbase.enterParked (by simp_all [Work.holderOk]) rfl
    | timeoutClose => simp_all [Work.holderOk]
    | processor | unitRead | unitWrite | refresh | enter | wakeUp => exact hnext (by simp [nextKind])

/-! ### TIMEOUT and RESIDUAL (R68, R73) -/

theorem Operation.recordAfter_cases (o : Operation) (rec : Option OpenRow) :
    o.recordAfter rec = rec ∨ o.recordAfter rec = none ∨
      ∃ a, o.kind = .rowOpen ∧ o.work.access = some a ∧ o.recordAfter rec = some a.openRow := by
  unfold Operation.recordAfter
  cases hk : o.kind <;> cases ha : o.work.access <;> simp

theorem State.PortInv.residualEnd {s : State} (h : s.PortInv) {o : Operation} (ho : s.mseq.op = some o)
    (hres : s.parb.holder = .residual) : (s.setRecord (o.recordAfter s.mseq.record)).endGrant.PortInv := by
  obtain ⟨hkind, hwork⟩ := h.work ho
  have hbusy : s.parb.holder ≠ .none := by simp [hres]
  refine h.endGrantWith hbusy (by simp [hres]) ?_
  rcases o.recordAfter_cases s.mseq.record with hr | hr | ⟨a, hk, ha, hr⟩ <;> rw [hr]
  · exact { h.base.row with }
  · exact .of_none rfl
  · exact h.openRow hbusy (hwork.busy_of_access ha).2 (by simpa [Operation.kindOk, hk, ha] using hkind)

theorem State.afterTimeout_congr {s t : State} (hv : t.portView = s.portView) (row : Option (OpenRow × Nat)) :
    (t.afterTimeout row).portView = (s.afterTimeout row).portView := by
  simp only [State.portView, Prod.mk.injEq] at hv
  obtain ⟨hpbi, hholder, hmseq, hrpc, hregions⟩ := hv
  cases row <;> simp [State.afterTimeout, State.portView, hpbi, hmseq, hrpc, hregions]

/-- What follows a TIMEOUT, the PBI having let go of the grant (R68). -/
theorem State.PortInv.afterTimeout {s t : State} (h : s.PortInv) (hbusy : s.parb.holder ≠ .none)
    (hv : t.portView.2 = s.portView.2)
    (hpbi : ∀ x : Holder, x ≠ .processor → State.PbiOk { t with parb := { t.parb with holder := x } })
    (row : Option (OpenRow × Nat)) : (t.afterTimeout row).PortInv := by
  simp only [State.portView, Prod.mk.injEq] at hv
  obtain ⟨hholder, hmseq, hrpc, hregions⟩ := hv
  unfold State.afterTimeout
  split
  next r penalty =>
    have hbase : State.PortBase { t.setRecord none with parb := { t.parb with holder := .residual } } :=
      h.handOver hbusy hrpc hregions (hpbi .residual (by simp)) (.of_none rfl)
    exact hbase.startOp rfl ⟨rfl, by simp [Work.accesses]⟩ (by simp)
  next => exact h.freed hbusy hrpc hregions (hpbi .none (by simp)) (.of_none rfl) rfl rfl rfl

theorem State.releaseProcessor_withParb (s : State) (p : Parb) (c : CycleRecord) :
    State.releaseProcessor { s with parb := p } c = { s.releaseProcessor c with parb := p } := by
  unfold State.releaseProcessor
  split <;> rfl

theorem State.PortInv.endInTimeout {s : State} (h : s.PortInv) (hbusy : s.parb.holder ≠ .none) (a : Access) :
    (s.endInTimeout a).PortInv := by
  rw [State.endInTimeout_eq]
  generalize s.mseq.record.map (fun r => (r, closePenalty s.rgd.regions r)) = row
  have hquiet (hproc : s.parb.holder ≠ .processor) : (s.afterTimeout row).PortInv :=
    h.afterTimeout hbusy rfl (fun x hx => h.pbi.setHolder hproc hx) row
  unfold State.reportTimeout
  split
  next hproc =>
    obtain ⟨_, _, hclaimed, _, _, hheld, hphase, _⟩ := h.pbi
    have haccess := hphase.mpr hproc
    split
    next c hc =>
      obtain ⟨d, hd⟩ := s.faultCycle_portView c .timeout
      have hv : (s.faultCycle c .timeout).portView.2 = s.portView.2 := by rw [hd, s.portView_releaseProcessor]
      refine h.afterTimeout hbusy hv (fun x hx => ?_) row
      have hpbi := State.releaseProcessor_pbiOk (s := { s with parb := { s.parb with holder := x } })
        (h.pbi.readOut_none (by simp [haccess])) hheld hx d
      rw [State.releaseProcessor_withParb] at hpbi
      simp only [State.portView, Prod.mk.injEq] at hd
      exact hpbi.congr hd.1 rfl hd.2.2.2.2
    next hc => simp [hc, haccess] at hclaimed
  next n hn => exact (hquiet (by simp [hn])).of_view (State.afterTimeout_congr (s.portView_timeoutUnit n a) row)
  next hres => exact hquiet (by simp [hres])
  next href => exact hquiet (by simp [href])
  next hfree => exact absurd hfree hbusy

theorem State.extensible_op {s : State} {a : Access} (h : s.extensible = some a) :
    ∃ o, s.mseq.op = some o ∧ o.work.access = some a := by
  unfold State.extensible at h
  split at h
  next w hop => exact ⟨_, hop, (Option.filter_eq_some_iff.mp h).1⟩
  next w hop => exact ⟨_, hop, (Option.filter_eq_some_iff.mp h).1⟩
  next => cases h

/-! ### Request lines and resets (R115, R158, R159) -/

theorem State.PortInv.overrunOn {s : State} (h : s.PortInv) {n : Fin 4}
    (hgrant : (s.chan n).granted = true → s.parb.holder = .channel n) : (s.overrunOn n).PortInv := by
  unfold State.overrunOn
  dsimp only
  generalize hu : s.fileFault _ = u
  have hview : u.portView = s.portView := by rw [← hu, s.portView_fileFault]
  have hreport : u.PortInv := h.of_view hview
  split
  · split
    next hg =>
      refine State.PortInv.of_view (hreport.giveUpGrant (n := n) ?_) (State.portView_setChan _ _ _)
      exact (congrArg (fun v => v.2.1) hview).trans (hgrant hg)
    next => exact hreport.of_view (State.portView_setChan _ _ _)
  · exact hreport.of_view (State.portView_setChan _ _ _)

theorem State.PortInv.trqEdge {s : State} (h : s.PortInv) (hs : s.ChannelsOk) (n : Fin 4) :
    (s.trqEdge n).PortInv := by
  obtain ⟨_, _, _, hholder⟩ := hs
  unfold State.trqEdge
  dsimp only
  split
  · split
    · split
      · refine State.PortInv.overrunOn (h.of_view (State.portView_setChan _ _ _)) fun hg => (hholder n).mpr ?_
        rwa [State.chan_setChan_same] at hg
      · exact h.of_view (by simp)
    · exact h.of_view (by simp)
  · exact h.of_view (by simp)

theorem State.PortInv.residualFromChannel {s : State} (h : s.PortInv) : s.residualFromChannel.PortInv := by
  unfold State.residualFromChannel
  split
  next n hn => exact h.giveUpGrant hn
  all_goals exact h

theorem State.PortInv.controllerReset {s : State} (h : s.PortInv) : s.controllerReset.PortInv :=
  h.residualFromChannel.of_view rfl

theorem State.reset_portInv : State.reset.PortInv := by
  constructor <;> decide

theorem State.pinReset_portInv (s : State) : s.pinReset.PortInv :=
  State.reset_portInv.of_view rfl

end Sys2Proof.Machine
end

section
/-! The memory port in order: a region load (R26, R28, R29). -/
namespace Sys2Proof.Machine

/-- An access after a load of region `r` (R28). -/
def Access.marked (r : Fin 4) (old new : RegionEntry) (a : Access) : Access :=
  if (old.isDynamic = true ∧ new ≠ old) ∧ a.region = r then { a with staleMark := true } else a

/-- An open row after a load of region `r` (R28, R66). -/
def OpenRow.marked (r : Fin 4) (old new : RegionEntry) (row : OpenRow) : OpenRow :=
  if (old.isDynamic = true ∧ new ≠ old) ∧ row.region = r ∧ row.stale = none then
    { row with stale := some old.rowPenalty.toNat }
  else row

theorem Mseq.marked_eq (m : Mseq) (r : Fin 4) (old new : RegionEntry) :
    m.marked r old new =
      { m with op := m.op.map fun o => { o with work := o.work.mapAccess (Access.marked r old new) },
               record := m.record.map (OpenRow.marked r old new) } := by rfl

section
variable (r : Fin 4) (old new : RegionEntry) (a : Access)

@[simp] theorem Access.marked_dir : (a.marked r old new).dir = a.dir := by
  unfold Access.marked
  split <;> rfl

@[simp] theorem Access.marked_entry : (a.marked r old new).entry = a.entry := by
  unfold Access.marked
  split <;> rfl

@[simp] theorem Access.marked_addr : (a.marked r old new).addr = a.addr := by
  unfold Access.marked
  split <;> rfl

@[simp] theorem Access.marked_region : (a.marked r old new).region = a.region := by
  unfold Access.marked
  split <;> rfl

/-- The marks ask for nothing else of the sequencer. -/
theorem Work.holderOk_marked (s : State) (w : Work) :
    (w.mapAccess (Access.marked r old new)).holderOk s = w.holderOk s := by
  cases w <;> simp [Work.mapAccess, Work.holderOk]

theorem Operation.kindOk_marked (o : Operation) :
    Operation.kindOk { o with work := o.work.mapAccess (Access.marked r old new) } = o.kindOk := by
  obtain ⟨kind, left, work⟩ := o
  cases kind <;> cases work <;> simp [Operation.kindOk, Work.mapAccess, Work.access]

end

/-- An unmarked DYNAMIC entry is still the one of the table (R28). -/
theorem Access.Ok.load {t : Quad RegionEntry} {a : Access} (h : a.Ok t) (r : Fin 4) (new : RegionEntry) :
    (a.marked r (t.get r) new).Ok (t.set r new) := by
  obtain ⟨hcontains, hwf, hprotect, hfresh⟩ := h
  refine ⟨by simpa using hcontains, by simpa using hwf, by simpa using hprotect, fun hmark hdyn => ?_⟩
  rw [Access.marked_entry] at hdyn ⊢
  rw [Access.marked_region, Quad.get_set]
  unfold Access.marked at hmark
  by_cases hr : a.region = r
  · rw [if_pos hr]
    split at hmark
    · cases hmark
    next hkept =>
      have hold := hfresh hmark hdyn
      rw [hr] at hold
      by_contra hne
      exact hkept ⟨⟨hold ▸ hdyn, hold ▸ hne⟩, hr⟩
  · rw [if_neg hr]
    simp only [hr, and_false, if_false] at hmark
    exact hfresh hmark hdyn

theorem OpenRow.marked_ok {t : Quad RegionEntry} {row : OpenRow} {r : Fin 4} (hwf : (t.get r).wf = true)
    (hfresh : row.stale = none → (t.get row.region).isDynamic = true) (hpenalty : ∀ p ∈ row.stale, 1 ≤ p ∧ p ≤ 4)
    (new : RegionEntry) :
    ((row.marked r (t.get r) new).stale = none →
      ((t.set r new).get (row.marked r (t.get r) new).region).isDynamic = true) ∧
      ∀ p ∈ (row.marked r (t.get r) new).stale, 1 ≤ p ∧ p ≤ 4 := by
  unfold OpenRow.marked
  split
  next hmarked =>
    obtain ⟨⟨hdyn, _⟩, _⟩ := hmarked
    simpa using (RegionEntry.wf_iff.mp hwf).2 (RegionEntry.isDynamic_iff.mp hdyn).2
  next hkept =>
    refine ⟨fun hs => ?_, hpenalty⟩
    have hdyn := hfresh hs
    rw [Quad.get_set]
    split
    next hr =>
      rw [hr] at hdyn
      by_contra hne
      exact hkept ⟨⟨hdyn, fun heq => hne (heq ▸ hdyn)⟩, hr, hs⟩
    next => exact hdyn

theorem Rpc.reloaded_frame (p : Rpc) (before after : Bool) :
    (p.reloaded before after).portState = p.portState ∧ (p.reloaded before after).parkStep = p.parkStep ∧
      (p.reloaded before after).sref = p.sref ∧ (p.reloaded before after).wakeCause = p.wakeCause := by
  unfold Rpc.reloaded
  repeat' split
  all_goals simp

theorem State.PortOk.load {s : State} (h : s.PortOk) (t : Quad RegionEntry) :
    State.PortOk { s with rgd := { s.rgd with regions := t },
                          rpc := s.rpc.reloaded (anyDynamic s.rgd.regions) (anyDynamic t) } := by
  obtain ⟨hsref, hdebt, hstep, hcause, htimer, hrange⟩ := h
  unfold Rpc.reloaded
  dsimp only
  split
  next hlast =>
    exact ⟨hsref, fun _ => rfl, hstep, hcause, by simp [hlast.2], by simp⟩
  next =>
    split
    next hfirst =>
      refine ⟨hsref, hdebt, hstep, hcause, ?_, fun k => timerStart_range⟩
      simpa [hfirst.2, Rpc.timerGate] using timerStart_isSome_iff s.rpc true
    next =>
      have hsame : anyDynamic t = anyDynamic s.rgd.regions := by
        cases hb : anyDynamic s.rgd.regions <;> cases ha : anyDynamic t <;> simp_all
      exact ⟨hsref, hdebt, hstep, hcause, by simpa only [hsame] using htimer, hrange⟩

theorem State.MseqOk.load {s : State} (h : s.MseqOk) (r : Fin 4) (e : RegionEntry) :
    (s.replaceRegion r e).MseqOk := by
  obtain ⟨hidle, hop, hext, hgate⟩ := h
  obtain ⟨hstate, hstep, _, _⟩ := s.rpc.reloaded_frame (anyDynamic s.rgd.regions) (anyDynamic (s.rgd.regions.set r e))
  have hnone : (s.replaceRegion r e).mseq.op = none ↔ s.mseq.op = none := Option.map_eq_none_iff
  refine ⟨hnone.trans ?_, fun o' ho' => ?_, fun hn => hext (hnone.mp hn), ?_⟩
  · rw [hidle, ← hstate, ← hstep]
    rfl
  · obtain ⟨o, ho, rfl⟩ := Option.mem_map.mp ho'
    obtain ⟨hkind, hholder, haccess, hextended⟩ := hop o ho
    refine ⟨(o.kindOk_marked r _ e).trans hkind, ?_, fun a' ha' => ?_, hextended⟩
    · refine (Work.holderOk_congr (s := s) (t := s.replaceRegion r e) rfl hstep hstate _).trans ?_
      exact (Work.holderOk_marked r _ e s o.work).trans hholder
    · obtain ⟨a, ha, rfl⟩ := List.mem_map.mp (Work.accesses_mapAccess _ _ ▸ ha')
      exact (haccess a ha).load r e
  · rw [← hstate, ← hstep] at hgate
    exact hgate

theorem State.RecordOk.load {s : State} (h : s.RecordOk) {r : Fin 4} (hwf : (s.rgd.regions.get r).wf = true)
    (e : RegionEntry) : (s.replaceRegion r e).RecordOk := by
  obtain ⟨hfresh, hpenalty, hasleep, hrecord⟩ := h
  obtain ⟨hstate, _⟩ := s.rpc.reloaded_frame (anyDynamic s.rgd.regions) (anyDynamic (s.rgd.regions.set r e))
  have hrow (row' : OpenRow) (h' : row' ∈ (s.replaceRegion r e).mseq.record) :
      (row'.stale = none → ((s.rgd.regions.set r e).get row'.region).isDynamic = true) ∧
        ∀ p ∈ row'.stale, 1 ≤ p ∧ p ≤ 4 := by
    obtain ⟨row, hrow, rfl⟩ := Option.mem_map.mp h'
    exact OpenRow.marked_ok hwf (hfresh row hrow) (hpenalty row hrow) e
  have hnone (hn : s.mseq.record = none) : (s.replaceRegion r e).mseq.record = none := Option.map_eq_none_iff.mpr hn
  refine ⟨fun row' h' => (hrow row' h').1, fun row' h' => (hrow row' h').2, fun hp => hnone (hasleep ?_),
    fun o' ho' hk => ?_⟩
  · rwa [← hstate]
  · obtain ⟨o, ho, rfl⟩ := Option.mem_map.mp ho'
    exact hnone (hrecord o ho hk)

theorem State.PortInv.replaceRegion {s : State} (h : s.PortInv) (hp : s.pbi.phase = .idle) (r : Fin 4)
    {e : RegionEntry} (he : e.wf = true) : (s.replaceRegion r e).PortInv := by
  obtain ⟨hidle, hending, _, hbus⟩ := h.pbi
  refine ⟨h.port.load _, ⟨hidle, hending, fun hw => ?_, hbus⟩, h.mseq.load r e, h.record.load (h.entries r) e,
    fun q => ?_⟩
  · have hphase : (s.replaceRegion r e).pbi.phase = .idle := hp
    simp [hphase] at hw
  · refine (congrArg RegionEntry.wf (Quad.get_set s.rgd.regions r q e)).trans ?_
    split
    · exact he
    · exact h.entries q

theorem State.PortInv.rload {s : State} (h : s.PortInv) (hp : s.pbi.phase = .idle) (data : Byte) :
    (s.rload data).PortInv := by
  unfold State.rload
  split
  · exact h.of_view (s.portView_setResult _)
  next r _ =>
    split
    · exact h.of_view (s.portView_setResult _)
    next e hentry =>
      split
      · exact h.of_view (s.portView_setResult _)
      · refine (h.replaceRegion hp r (RegionStaging.entry_wf hentry)).of_view ?_
        rw [State.portView_setResult, State.loadRegion_frame]
        rfl

end Sys2Proof.Machine
end

section
/-! Every step keeps every invariant: the commands that leave the port alone, then every write, every command and the
counts of the clock. -/
namespace Sys2Proof.Machine

/-! ### The channels and the logs leave the port alone -/

theorem State.portView_channelStrobe (s : State) (data : Byte) {f : State → Fin 4 → State}
    (hf : ∀ n, (f s n).portView = s.portView) : (s.channelStrobe data f).portView = s.portView := by
  unfold State.channelStrobe
  split
  · exact s.portView_setResult _
  · exact hf _

theorem State.portView_enqOn (s : State) (n : Fin 4) : (s.enqOn n).portView = s.portView := by
  unfold State.enqOn
  dsimp only
  repeat' split
  all_goals simp

theorem State.portView_startOn (s : State) (n : Fin 4) : (s.startOn n).portView = s.portView := by
  unfold State.startOn
  dsimp only
  repeat' split
  all_goals simp

theorem State.portView_holdOn (s : State) (n : Fin 4) : (s.holdOn n).portView = s.portView := by
  unfold State.holdOn
  dsimp only
  repeat' split
  all_goals simp

theorem State.portView_resumeOn (s : State) (n : Fin 4) : (s.resumeOn n).portView = s.portView := by
  unfold State.resumeOn
  dsimp only
  repeat' split
  all_goals simp

theorem State.portView_skipOn (s : State) (n : Fin 4) : (s.skipOn n).portView = s.portView := by
  unfold State.skipOn
  dsimp only
  repeat' split
  all_goals simp

theorem State.portView_flushOn (s : State) (n : Fin 4) : (s.flushOn n).portView = s.portView := by
  unfold State.flushOn
  dsimp only
  split <;> simp

theorem State.portView_writeChcfg (s : State) (data : Byte) : (s.writeChcfg data).portView = s.portView := by
  unfold State.writeChcfg
  dsimp only
  split <;> simp

theorem State.portView_logpop (s : State) : s.logpop.portView = s.portView := by
  unfold State.logpop
  split
  · exact s.portView_setResult _
  · rw [State.portView_takeWaiting, State.portView_setResult]
    rfl

theorem State.portView_fltpop (s : State) : s.fltpop.portView = s.portView := by
  unfold State.fltpop
  split <;> rfl

theorem State.portView_wload (s : State) (data : Byte) : (s.wload data).portView = s.portView := by
  unfold State.wload
  split
  · rfl
  · split <;> rfl

theorem State.portView_wread (s : State) (data : Byte) : (s.wread data).portView = s.portView := by
  unfold State.wread
  split <;> rfl

theorem State.portView_rread (s : State) (data : Byte) : (s.rread data).portView = s.portView := by
  unfold State.rread
  split <;> rfl

theorem State.portView_writePlain (s : State) (off : Offset) (b : Byte) :
    (s.writePlain off b).portView = s.portView := by
  unfold State.writePlain
  dsimp only
  split <;> rfl

/-! ### Every write -/

theorem State.PortInv.writeAt {s : State} (h : s.PortInv) (hs : s.Served) (off : Offset) (b : Byte) :
    (s.writeAt off b).PortInv := by
  unfold State.writeAt
  split
  · exact h.of_view (s.portView_channelStrobe b s.portView_enqOn)
  · exact h.of_view (s.portView_channelStrobe b s.portView_startOn)
  · exact h.of_view (s.portView_channelStrobe b s.portView_holdOn)
  · exact h.of_view (s.portView_channelStrobe b s.portView_resumeOn)
  · exact h.of_view (s.portView_channelStrobe b s.portView_skipOn)
  · exact h.of_view (s.portView_channelStrobe b s.portView_flushOn)
  · exact h.of_view (s.portView_writeChcfg b)
  · exact h.of_view (s.portView_wload b)
  · exact h.of_view (s.portView_wread b)
  · exact h.rload hs.phase b
  · exact h.of_view (s.portView_rread b)
  · exact h.of_view s.portView_logpop
  · exact h.of_view s.portView_fltpop
  · exact h.writeRfint false b
  · exact h.writeRfint true b
  · exact h.writeRfurg b
  · exact h.park
  · exact h.wake
  · exact h.of_view rfl
  · exact h.of_view rfl
  · exact h.of_view rfl
  · exact h.controllerReset
  · exact h.of_view (s.portView_writePlain off b)

theorem State.PortInv.serveWindow {s : State} (h : s.PortInv) (hs : s.Served) (pins : BusPins) :
    (s.serveWindow pins).PortInv := by
  unfold State.serveWindow
  dsimp only
  split
  · exact h.readAt hs _
  · exact h.writeAt hs _ _
  · exact h
  · exact h

/-! ### Every command -/

/-- The outcome is a next state whose port is in order. -/
def PortInOrder (o : Host.Outcome State Fault Refusal) : Prop := ∃ t, o = .next t ∧ t.PortInv

theorem PortInOrder.next {t : State} (h : t.PortInv) : PortInOrder (.next t) := ⟨t, rfl, h⟩

section
variable {s : State} (h : s.PortInv)
include h

theorem State.PortInv.execUnitComplete : PortInOrder (execUnitComplete s) := by
  unfold Machine.execUnitComplete
  split
  · split
    next hdue => exact .next (h.finishUnit hdue.1)
    next => exact .next h
  · exact .next h

theorem State.PortInv.execUnitReadComplete (md : Byte) : PortInOrder (execUnitReadComplete md s) := by
  unfold Machine.execUnitReadComplete
  split
  next hop =>
    split
    · exact .next (h.finishRead hop rfl md)
    · exact .next h
  next => exact .next h

theorem State.PortInv.execAccessComplete (md : Byte) : PortInOrder (execAccessComplete md s) := by
  unfold Machine.execAccessComplete
  dsimp only
  split
  · split
    next hdue => exact .next (h.finishAccess hdue.1 md)
    next => exact .next h
  · split
    next hdue => exact .next (h.finishAccess hdue.1 md)
    next => exact .next h
  · exact .next h

theorem State.PortInv.execRowOpen : PortInOrder (execRowOpen s) := by
  unfold Machine.execRowOpen
  split
  next hop =>
    split
    next ha => exact .next (h.finishRowOpen hop rfl ha)
    next => exact .next h
  next => exact .next h

theorem State.PortInv.execRowClose : PortInOrder (execRowClose s) := by
  unfold Machine.execRowClose
  split
  next hop => exact .next (h.finishRowClose hop)
  next => exact .next h

theorem State.PortInv.execTimeout : PortInOrder (execTimeout s) := by
  unfold Machine.execTimeout
  split
  next a ha =>
    obtain ⟨o, ho, haccess⟩ := State.extensible_op ha
    obtain ⟨_, hwork⟩ := h.work ho
    exact .next (h.endInTimeout (hwork.busy_of_access haccess).1 a)
  next => exact .next h

theorem State.PortInv.execResidualEnd : PortInOrder (execResidualEnd s) := by
  unfold Machine.execResidualEnd
  split
  next o ho =>
    split
    next hdue => exact .next (h.residualEnd ho hdue.1)
    next => exact .next h
  next => exact .next h

theorem State.PortInv.finishRefresh (hholder : s.parb.holder = .refresh) : s.finishRefresh.PortInv := by
  obtain ⟨hsref, hdebt, hrest⟩ := h.port
  refine (h.endGrant (by simp [hholder]) (by simp [hholder])).setTimer
    (r := { s.rpc with debt := s.rpc.debt - 1 }) ⟨hsref, fun hp => ?_, hrest⟩ rfl rfl
  exact Nat.sub_eq_zero_of_le (hdebt hp ▸ Nat.zero_le 1)

theorem State.PortInv.execRefresh : PortInOrder (execRefresh s) := by
  unfold Machine.execRefresh
  split
  · split
    next hdue => exact .next (h.finishRefresh hdue)
    next => exact .next h
  · exact .next h

theorem State.PortInv.execSelfRefreshEnter : PortInOrder (execSelfRefreshEnter s) := by
  unfold Machine.execSelfRefreshEnter
  split
  next hop =>
    split
    next hstep =>
      obtain ⟨_, _, _, hrecord⟩ := h.record
      exact .next (h.base.enterParked hstep (hrecord _ hop (by simp)))
    next => exact .next h
  next => exact .next h

theorem State.PortInv.execSelfRefreshExit : PortInOrder (execSelfRefreshExit s) := by
  unfold Machine.execSelfRefreshExit
  split
  · split
    next hwaking => exact .next (h.finishWake hwaking)
    next => exact .next h
  · exact .next h

theorem State.PortInv.execIntervalTimerExpiry : PortInOrder (execIntervalTimerExpiry s) := by
  unfold Machine.execIntervalTimerExpiry
  split
  next ht => exact .next (h.expire ht)
  next => exact .next h

theorem State.PortInv.execParkStep : PortInOrder (execParkStep s) := by
  unfold Machine.execParkStep
  split
  next hdue => exact .next (h.beginParkStep hdue)
  next => exact .next h

theorem State.PortInv.execPendingFlagsActed (n : Fin 4) : PortInOrder (execPendingFlagsActed n s) := by
  unfold Machine.execPendingFlagsActed
  split
  · exact .next (h.of_view (s.portView_actPending n))
  · exact .next h

theorem State.PortInv.execConfigurationInUse (n : Fin 4) : PortInOrder (execConfigurationInUse n s) := by
  unfold Machine.execConfigurationInUse
  split
  · exact .next (h.of_view (by simp))
  · exact .next h

theorem State.PortInv.execTrqDeassert (n : Fin 4) : PortInOrder (execTrqDeassert n s) := by
  unfold Machine.execTrqDeassert
  dsimp only
  split
  · exact .next (h.of_view (by simp))
  · exact .next (h.of_view (by simp))

theorem State.PortInv.execHeldCycleServed (pins : BusPins) : PortInOrder (execHeldCycleServed pins s) := by
  obtain ⟨hidle, _, _, _, _, hheld, hholder, hread⟩ := h.pbi
  unfold Machine.execHeldCycleServed
  split
  next hp =>
    have hserved : State.PortInv { s with pbi := { s.pbi with memc := false, held := none } } :=
      h.setPbi (by simp_all [State.PbiOk])
    have hquiet : s.pbi.held ≠ none →
        State.Served { s with pbi := { s.pbi with memc := false, held := none } } := fun hk =>
      ⟨hp, rfl, rfl, by_contra fun hr => hk (hread hr).2.2⟩
    split
    next hk => exact .next (hserved.lookUpCycle (hquiet (by simp [hk])) s.pbi.memc pins)
    next hk =>
      have hserve := hserved.serveWindow (hquiet (by simp [hk])) pins
      rw [← hheld hk] at hserve
      exact .next hserve
    next => exact .next h
  next => exact .next h

end

theorem State.Inv.exec_port {s : State} (hs : s.Inv) (c : Instr) : PortInOrder (exec c s) := by
  have h := hs.portInv
  cases hw : c.windowWrite with
  | some w =>
    rw [exec_of_windowWrite (off := w.1) (data := w.2) hw]
    exact .next (h.windowCycle fun u hu hserved => hu.writeAt hserved w.1 w.2)
  | none =>
    cases c with
    | enq | start | hold | resume | skip | flush | wload | wread | rload | rread | logpop | fltpop | park | wake
    | ctlrst | rfintWrite | rfurgWrite | chcfgWrite | intcauseWrite | intenWrite | arbmodeWrite | registerWrite =>
      cases hw
    | chstatRead off => exact .next (h.windowCycle fun u hu hserved => hu.readAt hserved off)
    | pinReset => exact .next s.pinReset_portInv
    | memoryCycle pins => exact .next (h.beginMemoryCycle pins)
    | heldCycleServed pins => exact h.execHeldCycleServed pins
    | cycleEnd => exact exec_cycleEnd_portInv h
    | trqAssert n => exact .next (h.trqEdge hs.channels n)
    | trqDeassert n => exact h.execTrqDeassert n
    | portGrant => exact .next h.grantDecision
    | accessComplete md => exact h.execAccessComplete md
    | unitReadComplete md => exact h.execUnitReadComplete md
    | unitComplete => exact h.execUnitComplete
    | pendingFlagsActed n => exact h.execPendingFlagsActed n
    | configurationInUse n => exact h.execConfigurationInUse n
    | completionRecordTaken => exact .next (h.of_view s.portView_takeWaiting)
    | rowOpen => exact h.execRowOpen
    | rowClose => exact h.execRowClose
    | timeout => exact h.execTimeout
    | residualEnd => exact h.execResidualEnd
    | refresh => exact h.execRefresh
    | intervalTimerExpiry => exact h.execIntervalTimerExpiry
    | parkStep => exact h.execParkStep
    | selfRefreshEnter => exact h.execSelfRefreshEnter
    | selfRefreshExit => exact h.execSelfRefreshExit

/-! ### Every step -/

/-- The invariants of the port beside those that `State.Keeps` and the tables are about. -/
theorem State.Inv.of_parts {s t : State} (h : s.Inv) (hkeeps : State.Keeps s t) (htables : t.TablesOk)
    (hport : t.PortInv) : t.Inv :=
  ⟨htables, hkeeps.capacity h.capacity, hkeeps.sequence h.sequence, hport.port, hkeeps.channels h.channels, hport.pbi,
    hport.mseq, hport.record⟩

theorem State.Inv.exec {c : Instr} {s t : State} (h : s.Inv) (ht : exec c s = .next t) : t.Inv := by
  obtain ⟨u, hu, hkeeps⟩ := exec_keepsOrder c s
  cases hu.symm.trans ht
  obtain ⟨v, hv, hport⟩ := h.exec_port c
  cases hv.symm.trans ht
  exact h.of_parts hkeeps (exec_tablesOk h.tables ht) hport

/-- The operation in progress with other counts of clocks left and of extension (R58, R67). -/
theorem State.PortInv.recount {s : State} (h : s.PortInv) {o : Operation} (ho : s.mseq.op = some o) (left : Nat)
    {e : Nat} (he : o.kind ≠ .read → o.kind ≠ .write → e = 0) :
    State.PortInv { s with mseq := { s.mseq with extension := e, op := some { o with left := left } } } := by
  obtain ⟨hkind, hwork⟩ := h.work ho
  obtain ⟨_, _, _, hrecord⟩ := h.record
  have hbase : State.PortBase { s with mseq := { s.mseq with extension := e, op := some { o with left := left } } } :=
    ⟨h.port, h.pbi, h.base.gate, { h.base.row with }, h.entries⟩
  exact hbase.inProgress rfl hkind ⟨(Work.holderOk_congr rfl rfl rfl _).trans hwork.holder, hwork.accesses⟩ he
    (hrecord o ho)

theorem State.PortInv.countTimer {s : State} (h : s.PortInv) {k : Nat} (hk : s.rpc.timer = some k) (hlate : 1 < k) :
    State.PortInv { s with rpc := { s.rpc with timer := some (k - 1) } } := by
  obtain ⟨hsref, hdebt, hstep, hcause, htimer, hrange⟩ := h.port
  obtain ⟨_, hmost⟩ := hrange k hk
  refine h.setTimer ⟨hsref, hdebt, hstep, hcause, ?_, ?_⟩ rfl rfl
  · exact (iff_of_true rfl (by simp [hk])).trans htimer
  · simp only [Option.mem_def, Option.some.injEq, forall_eq']
    omega

theorem State.inv_keptByEvents : KeptByEvents State.Inv where
  exec h ht := h.exec ht
  queue q h := { h with }
  free h := { h with }
  op {s o} h ho := by
    obtain ⟨_, hop, _⟩ := h.mseq
    obtain ⟨_, _, _, hext⟩ := hop o ho
    exact h.of_parts ((State.keeps_keptByEvents s).op (.refl s) ho) h.tables (h.portInv.recount ho _ hext)
  extend {s o} h ho hk hext := by
    refine h.of_parts ((State.keeps_keptByEvents s).extend (.refl s) ho hk hext) h.tables ?_
    exact h.portInv.recount ho 0 fun hread hwrite => absurd hk (not_or_intro hread hwrite)
  timer {s k} h hk hlate := by
    refine h.of_parts ((State.keeps_keptByEvents s).timer (.refl s) hk hlate) h.tables ?_
    exact h.portInv.countTimer hk hlate

/-- Settles O9: what every command keeps, and the three counts of the clock. -/
theorem stepKeepsEveryInvariant : Obligations.StepKeepsEveryInvariant :=
  fun _ _ hs ht => State.inv_keptByEvents.step hs ht

end Sys2Proof.Machine
end

section
/-! The port arbiter (chapter 4): the grant decision, the order of the channels, the handing over of the port, and the
end of an operation left to RESIDUAL. -/
namespace Sys2Proof.Machine

/-! ### The decision (R49, R50, R85) -/

theorem State.decision_running {s : State} (h : s.rpc.portState = .running) :
    s.decision =
      if 1 ≤ s.rpc.debt ∧ s.rpc.rfurg ≤ s.rpc.debt then some .refresh
      else if s.pbi.phase = .waiting then some .processor
      else (s.chosenChannel.map .channel).or (if 1 ≤ s.rpc.debt then some .refresh else none) := by
  cases hc : s.chosenChannel <;>
    simp [State.decision, State.refreshClaim, State.refreshUrgent, State.processorClaim, h, hc]

theorem State.decision_draining {s : State} (h : s.rpc.portState = .draining) :
    s.decision =
      if s.rpc.parkStep then none
      else if 1 ≤ s.rpc.debt then some .refresh
      else if s.pbi.phase = .waiting then some .processor
      else none := by
  simp [State.decision, State.refreshClaim, State.processorClaim, h]

theorem State.decision_shut {s : State} (h : s.rpc.portState = .parked ∨ s.rpc.portState = .waking) :
    s.decision = none := by
  rcases h with h | h <;> simp [State.decision, h]

/-- Settles O25, branch by branch along the two lists of R49 and R50. -/
theorem grantOrderUnderTheGate : Obligations.GrantOrderUnderTheGate := by
  intro s
  refine ⟨fun hrun => ?_, fun hdrain => ?_, State.decision_shut⟩
  · rw [State.decision_running hrun]
    refine ⟨fun hdebt hurgent => if_pos ⟨hdebt, hurgent⟩, fun hroutine => ?_⟩
    have hnot : ¬(1 ≤ s.rpc.debt ∧ s.rpc.rfurg ≤ s.rpc.debt) := by omega
    rw [if_neg hnot]
    refine ⟨fun hwait => if_pos hwait, fun hwait => ?_⟩
    rw [if_neg hwait]
    exact ⟨fun n hn => by simp [hn], fun hn hdebt => by simp [hn, hdebt], fun hn hdebt => by simp [hn, hdebt]⟩
  · rw [State.decision_draining hdrain]
    refine ⟨fun hpark => if_pos hpark, fun hpark => ?_⟩
    simp only [hpark, Bool.false_eq_true, if_false]
    exact ⟨fun hdebt => if_pos hdebt, fun hdebt hwait => by simp [hdebt, hwait],
      fun hdebt hwait => by simp [hdebt, hwait]⟩

/-! ### The order of the channels (R51) -/

/-- In a list that rises by `rank`, what `find?` finds is the first by rank. -/
theorem find?_least_rank {α : Type} {l : List α} {rank : α → Nat} {p : α → Bool} {a m : α}
    (hrise : l.Pairwise (fun x y => rank x < rank y)) (ha : l.find? p = some a) (hm : m ∈ l)
    (hlt : rank m < rank a) : p m = false := by
  obtain ⟨_, before, after, rfl, hbefore⟩ := List.find?_eq_some_iff_append.mp ha
  obtain ⟨_, hafter, _⟩ := List.pairwise_append.mp hrise
  rcases List.mem_append.mp hm with hm | hm
  · simpa using hbefore m hm
  · rcases List.mem_cons.mp hm with rfl | hm
    · exact absurd hlt (lt_irrefl _)
    · exact absurd hlt (List.rel_of_pairwise_cons hafter hm).asymm

theorem Parb.mem_channelOrder (p : Parb) (n : Fin 4) : n ∈ p.channelOrder := by
  unfold Parb.channelOrder
  split
  · exact mem_allFour n
  · split <;> revert n <;> decide

theorem Parb.channelOrder_fixed {p : Parb} (h : p.mode = .fixed) :
    p.channelOrder.Pairwise (fun m n => m.val < n.val) := by
  simp only [Parb.channelOrder, h]
  decide

theorem Parb.channelOrder_rotating {p : Parb} (h : p.mode = .rotating) :
    p.channelOrder.Pairwise (fun m n => p.turn m < p.turn n) := by
  simp only [Parb.channelOrder, h, Parb.turn]
  generalize p.pointer = k
  revert k
  decide

theorem State.chosenChannel_eq_none_iff (s : State) :
    s.chosenChannel = none ↔ ∀ n, (s.chan n).claims = false := by
  simp [State.chosenChannel, Parb.mem_channelOrder]

theorem State.claims_chosenChannel {s : State} {n : Fin 4} (h : s.chosenChannel = some n) :
    (s.chan n).claims = true := by
  simpa using List.find?_some h

theorem State.chosenChannel_fixed {s : State} {n m : Fin 4} (h : s.chosenChannel = some n)
    (hmode : s.parb.mode = .fixed) (hm : m < n) : (s.chan m).claims = false :=
  find?_least_rank (p := fun n => (s.chan n).claims) (Parb.channelOrder_fixed hmode) h (s.parb.mem_channelOrder m) hm

theorem State.chosenChannel_rotating {s : State} {n m : Fin 4} (h : s.chosenChannel = some n)
    (hmode : s.parb.mode = .rotating) (hm : s.parb.turn m < s.parb.turn n) : (s.chan m).claims = false :=
  find?_least_rank (p := fun n => (s.chan n).claims) (Parb.channelOrder_rotating hmode) h
    (s.parb.mem_channelOrder m) hm

/-! ### ARBMODE (R57, R160) -/

theorem exec_arbmodeWrite_quiet {s : State} (hs : s.busQuiet) (data : Byte) :
    exec (.arbmodeWrite data) s = .next (s.released.writeArbmode data) :=
  congrArg Host.Outcome.next (State.windowCycle_quiet hs _)

theorem State.readRegister_arbmode (s : State) :
    s.readRegister 0x4C = if s.parb.mode = .rotating then 1 else 0 := by rfl

theorem byte_bit0_iff (data : Byte) : data.getLsbD 0 = true ↔ data.toNat % 2 = 1 := by
  simp [BitVec.getLsbD, Nat.testBit_zero]

theorem byte_and_one (data : Byte) : data &&& 1 = if data.getLsbD 0 then 1 else 0 := by
  have hbit : data &&& 1#8 = (BitVec.ofBool (data.getLsbD 0)).setWidth 8 :=
    BitVec.and_one_eq_setWidth_ofBool_getLsbD
  refine hbit.trans ?_
  cases data.getLsbD 0 <;> rfl

/-- ARBMODE reads back as bit 0 of the byte written. -/
theorem State.readRegister_writeArbmode (s : State) (data : Byte) :
    (s.writeArbmode data).readRegister 0x4C = data &&& 1 := by
  rw [State.readRegister_arbmode, byte_and_one, State.writeArbmode]
  cases data.getLsbD 0 <;> rfl

/-- Settles O26: the orders of R51 by the rank of a channel in its order, ARBMODE by its register. -/
theorem arbmodeSetsTheChannelOrder : Obligations.ArbmodeSetsTheChannelOrder := by
  refine ⟨fun s => ⟨s.chosenChannel_eq_none_iff, fun n hn => ?_⟩, fun c => Channel.claims_iff, fun data s hs => ?_⟩
  · exact ⟨State.claims_chosenChannel hn, fun hmode _ => State.chosenChannel_fixed hn hmode,
      fun hmode _ => State.chosenChannel_rotating hn hmode⟩
  · rw [exec_arbmodeWrite_quiet hs]
    refine ⟨if data.getLsbD 0 then .rotating else .fixed, rfl, ?_, ?_⟩
    · rw [← byte_bit0_iff]
      cases data.getLsbD 0 <;> simp
    · rintro t ⟨⟩
      exact State.readRegister_writeArbmode _ data

/-! ### Who takes the port (R48) -/

theorem exec_portGrant_none {s : State} (h : s.parb.holder ≠ .none ∨ s.decision = none) :
    exec .portGrant s = .next s := by
  refine congrArg Host.Outcome.next ?_
  rcases h with h | h <;> simp [State.grantDecision, h]

section
variable {s : State} (hfree : s.parb.holder = .none)
include hfree

theorem exec_portGrant_refresh (hd : s.decision = some .refresh) : exec .portGrant s = .next s.grantRefresh :=
  congrArg Host.Outcome.next (by simp [State.grantDecision, hfree, hd])

theorem exec_portGrant_processor (hd : s.decision = some .processor) :
    exec .portGrant s = .next s.grantProcessor :=
  congrArg Host.Outcome.next (by simp [State.grantDecision, hfree, hd])

theorem exec_portGrant_channel {n : Fin 4} (hd : s.decision = some (.channel n)) :
    exec .portGrant s = .next (s.grantChannel n) :=
  congrArg Host.Outcome.next (by simp [State.grantDecision, hfree, hd])

end

/-! ### The first operation of each grant (R40, R52, R69, R110) -/

theorem State.grantRefresh_close {s : State} {row : OpenRow} (h : s.mseq.record = some row) :
    s.grantRefresh =
      ({ s with parb := { s.parb with holder := .refresh } } : State).startOp
        (.refresh (dynamicSelects s.rgd.regions)) (.rowClose row (closePenalty s.rgd.regions row)) :=
  State.beginWork_some (by simp [nextKind, h])

theorem State.grantRefresh_now {s : State} (h : s.mseq.record = none) :
    s.grantRefresh =
      ({ s with parb := { s.parb with holder := .refresh } } : State).startOp
        (.refresh (dynamicSelects s.rgd.regions)) .refresh :=
  State.beginWork_some (by simp [nextKind, h])

theorem State.grantProcessor_claimed {s : State} {c : CycleRecord} {pa : PhysAddr} {r : Fin 4}
    (hc : s.pbi.cycle = some c) (hpa : c.physical = some pa) (hr : c.region = some r) :
    s.grantProcessor =
      ({ s with parb := { s.parb with holder := .processor }, pbi := { s.pbi with phase := .access } } :
          State).startOp
        (.processor (captureAccess s.rgd.regions c.dir pa r) (c.writeData.getD 0))
        (nextForAccess s.rgd.regions s.mseq.record (captureAccess s.rgd.regions c.dir pa r)) := by
  simp only [State.grantProcessor, hc, hpa, hr]
  exact State.beginWork_some rfl

/-- The channel at its grant, the latch in one expression: cleared by a PACED head under EDGE sense (R114). -/
theorem Channel.take_eq (c : Channel) (d : Descriptor) (limit : Option Nat) :
    c.take d limit =
      { c with
        port := .grant limit 0,
        latch := c.latch && !(d.pacing == Pacing.paced && c.inUse.sense == Sense.edge),
        tak := d.pacing == Pacing.paced } := by
  cases hp : d.pacing <;> cases hs : c.inUse.sense <;> simp [Channel.take, hp, hs]

theorem State.grantChannel_passing {s : State} {n m k : Fin 4} {limit : Option Nat} {d : Descriptor}
    {rest : List Descriptor} (hport : (s.chan n).port = .claim limit) (hqueue : (s.chan n).queue = d :: rest)
    (hpass : unitVerdict s.rgd.regions d.curSrc d.curDst = .pass m k) :
    s.grantChannel n =
      (({ s with parb := { s.parb with holder := .channel n, pointer := n } } : State).setChan n
          ((s.chan n).take d limit)).startOp
        (.unitRead n (captureAccess s.rgd.regions .read d.curSrc m) (captureAccess s.rgd.regions .write d.curDst k))
        (nextForAccess s.rgd.regions s.mseq.record (captureAccess s.rgd.regions .read d.curSrc m)) := by
  simp only [State.grantChannel, hport, hqueue, hpass]
  exact State.beginWork_some rfl

/-! ### TAKn and TEND (R117) -/

theorem Quad.any_iff {α : Type} {p : α → Bool} {q : Quad α} : q.any p = true ↔ ∃ i, p (q.get i) = true := by
  simp [Quad.any, Quad.get, Fin.exists_fin_succ, or_assoc]

theorem State.tendPin_iff (s : State) : s.tendPin = true ↔ ∃ n, (s.chan n).tend = true :=
  Quad.any_iff

/-- Settles O27, claimant by claimant along the decision of PARB. -/
theorem portGrantHandsOverThePort : Obligations.PortGrantHandsOverThePort := by
  intro s
  refine ⟨exec_portGrant_none, fun hfree hd => ?refresh, fun c pa r hfree hd hc hpa hr => ?processor,
    fun n limit d rest m k hfree hd hport hqueue hpass => ?channel, fun n => rfl, s.tendPin_iff⟩
  case refresh =>
    rw [exec_portGrant_refresh hfree hd]
    cases hrow : s.mseq.record with
    | some row => rw [State.grantRefresh_close hrow]
    | none => rw [State.grantRefresh_now hrow]
  case processor =>
    rw [exec_portGrant_processor hfree hd, State.grantProcessor_claimed hc hpa hr]
    rfl
  case channel =>
    rw [exec_portGrant_channel hfree hd, State.grantChannel_passing hport hqueue hpass, Channel.take_eq]
    rfl

/-! ### The end under RESIDUAL (R55, R73) -/

theorem exec_residualEnd_due {s : State} {o : Operation} (ho : s.mseq.op = some o)
    (hres : s.parb.holder = .residual) (hext : s.mseq.extension < 256) :
    exec .residualEnd s = .next (s.setRecord (o.recordAfter s.mseq.record)).endGrant := by
  change execResidualEnd s = _
  simp [execResidualEnd, State.mayComplete, ho, hres, hext]

theorem Operation.recordAfter_access {o : Operation} (h : o.kind = .read ∨ o.kind = .write) (rec : Option OpenRow) :
    o.recordAfter rec = rec := by
  rcases h with h | h <;> simp [Operation.recordAfter, h]

theorem Operation.recordAfter_rowClose {o : Operation} {row : OpenRow} {p : Nat} (h : o.kind = .rowClose row p)
    (rec : Option OpenRow) : o.recordAfter rec = none := by
  simp [Operation.recordAfter, h]

theorem Operation.recordAfter_rowOpen {o : Operation} {a : Access} (h : o.kind = .rowOpen)
    (ha : o.work.access = some a) (rec : Option OpenRow) : o.recordAfter rec = some a.openRow := by
  simp [Operation.recordAfter, h, ha]

/-- Settles O31: the record is what the operation leaves of it, kind by kind. -/
theorem residualEndFreesThePort : Obligations.ResidualEndFreesThePort := by
  intro s o ho hres hext
  refine ⟨o.recordAfter s.mseq.record, exec_residualEnd_due ho hres hext, ?_, ?_, ?_⟩
  · exact fun hk => Operation.recordAfter_access hk _
  · exact fun row p hk => Operation.recordAfter_rowClose hk _
  · exact fun a hk ha => ⟨a.openRow, Operation.recordAfter_rowOpen hk ha _, rfl, rfl, rfl⟩

end Sys2Proof.Machine
end

section
/-! The memory sequencer (chapter 5): the completions that are not due, the row decision, the operations and their pins,
and the operations that follow one another inside a grant. -/
namespace Sys2Proof.Machine

/-! ### Completions that are not due (R67; log 3) -/

theorem State.mayComplete_of_late {s : State} (h : 256 ≤ s.mseq.extension) : s.mayComplete = false := by
  simpa [State.mayComplete] using h

/-- With MSEQ idle there is nothing for a completion command to complete. -/
theorem exec_completion_idle {s : State} (hop : s.mseq.op = none) (md : Byte) :
    ∀ c ∈ [Instr.accessComplete md, .unitReadComplete md, .unitComplete, .rowOpen, .rowClose, .timeout, .residualEnd,
      .refresh, .selfRefreshEnter, .selfRefreshExit], exec c s = .next s := by
  simp [exec, execAccessComplete, execUnitReadComplete, execUnitComplete, execRowOpen, execRowClose, execTimeout,
    State.extensible, execResidualEnd, execRefresh, execSelfRefreshEnter, execSelfRefreshExit, hop]

section
variable {s : State} (hlate : 256 ≤ s.mseq.extension)
include hlate

theorem exec_accessComplete_late (md : Byte) : exec (.accessComplete md) s = .next s := by
  change execAccessComplete md s = _
  unfold execAccessComplete
  split <;> simp [State.mayComplete_of_late hlate]

theorem exec_unitReadComplete_late (md : Byte) : exec (.unitReadComplete md) s = .next s := by
  change execUnitReadComplete md s = _
  unfold execUnitReadComplete
  split <;> simp [State.mayComplete_of_late hlate]

theorem exec_unitComplete_late : exec .unitComplete s = .next s := by
  change execUnitComplete s = _
  unfold execUnitComplete
  split <;> simp [State.mayComplete_of_late hlate]

theorem exec_residualEnd_late : exec .residualEnd s = .next s := by
  change execResidualEnd s = _
  unfold execResidualEnd
  split <;> simp [State.mayComplete_of_late hlate]

end

/-- Settles O32: no operation in progress to complete, or an access that may no longer complete. -/
theorem completionsNotDueChangeNothing : Obligations.CompletionsNotDueChangeNothing := by
  refine fun md s => ⟨fun hop => by simpa using exec_completion_idle hop md, fun hlate => ?_⟩
  exact ⟨exec_accessComplete_late hlate md, exec_unitReadComplete_late hlate md, exec_unitComplete_late hlate,
    exec_residualEnd_late hlate⟩

/-! ### The row decision (R60, R66) -/

theorem nextForAccess_stale {row : OpenRow} {p : Nat} (h : row.stale = some p) (t : Quad RegionEntry) (a : Access) :
    nextForAccess t (some row) a = .rowClose row p := by
  simp [nextForAccess, closePenalty_stale h, h]

theorem nextForAccess_static {a : Access} (hk : a.entry.kind = .static) {rec : Option OpenRow}
    (hfresh : ∀ row ∈ rec, row.stale = none) (t : Quad RegionEntry) : nextForAccess t rec a = a.mainOp := by
  cases rec with
  | none => simp [nextForAccess, hk]
  | some row => simp [nextForAccess, hk, hfresh row rfl]

section
variable {a : Access} (hk : a.entry.kind = .dynamic) (t : Quad RegionEntry)
include hk

theorem nextForAccess_closed : nextForAccess t none a = .rowOpen := by
  simp [nextForAccess, hk]

theorem nextForAccess_hit {row : OpenRow} (hfresh : row.stale = none) (hregion : row.region = a.region)
    (hrow : row.row = a.entry.rowOf a.addr) : nextForAccess t (some row) a = a.mainOp := by
  simp [nextForAccess, hk, hfresh, hregion, hrow]

theorem nextForAccess_miss {row : OpenRow} (hfresh : row.stale = none)
    (hother : row.region ≠ a.region ∨ row.row ≠ a.entry.rowOf a.addr) :
    nextForAccess t (some row) a = .rowClose row (t.get row.region).rowPenalty.toNat := by
  have hnot : ¬(row.region = a.region ∧ row.row = a.entry.rowOf a.addr) := not_and_or.mpr hother
  simp [nextForAccess, hk, hfresh, hnot, closePenalty_fresh hfresh]

end

/-! ### What an operation takes and drives (R22, R59, R62) -/

section
variable {w : Work} {a : Access} (ha : w.access = some a)
include ha

theorem opClocks_access {k : OpKind} (hk : k = .read ∨ k = .write) : opClocks w k = 2 + a.entry.wait.toNat := by
  rcases hk with rfl | rfl <;> simp [opClocks, ha]

theorem opAddress_access {k : OpKind} (hk : k = .read ∨ k = .write) : opAddress w k = some a.addr := by
  rcases hk with rfl | rfl <;> simp [opAddress, ha]

theorem opClocks_rowOpen : opClocks w .rowOpen = a.entry.rowPenalty.toNat := by
  simp [opClocks, ha]

theorem opAddress_rowOpen : opAddress w .rowOpen = some (a.entry.rowStart (a.entry.rowOf a.addr)) := by
  simp [opAddress, ha]

end

theorem get_onlySelect (m n : Fin 4) : (onlySelect m).get n = decide (n = m) := by
  revert m n
  decide

theorem Quad.get_allOff (n : Fin 4) : (⟨false, false, false, false⟩ : Quad Bool).get n = false := by
  revert n
  decide

/-- The selects of an access are that of its region alone. -/
theorem Operation.selects_access {o : Operation} {a : Access}
    (hk : o.kind = .read ∨ o.kind = .write ∨ o.kind = .rowOpen) (ha : o.work.access = some a) : o.selects = onlySelect a.region := by
  rcases hk with hk | hk | hk <;> simp [Operation.selects, hk, ha]

theorem Operation.selects_rowClose {o : Operation} {row : OpenRow} {p : Nat} (hk : o.kind = .rowClose row p) :
    o.selects = onlySelect row.region := by
  simp [Operation.selects, hk]

theorem Operation.selects_refresh {o : Operation} {sel : Quad Bool} (hk : o.kind = .refresh)
    (hw : o.work = .refresh sel) : o.selects = sel := by
  simp [Operation.selects, hk, hw]

theorem Operation.selects_enter {o : Operation} {sel : Quad Bool} (hk : o.kind = .selfRefreshEnter)
    (hw : o.work = .enter sel) : o.selects = sel := by
  simp [Operation.selects, hk, hw]

theorem Operation.get_selects_exit {o : Operation} {sel : Quad Bool} (hk : o.kind = .selfRefreshExit)
    (hw : o.work = .wakeUp sel) (n : Fin 4) : o.selects.get n = (sel.get n && decide (124 < o.left)) := by
  by_cases h : 124 < o.left <;> simp [Operation.selects, hk, hw, h, Quad.get_allOff]

section
variable {s : State} {o : Operation} (ho : s.mseq.op = some o)
include ho

theorem State.mrd_iff : s.mrd = true ↔ o.kind = .read := by
  simp [State.mrd, ho]

theorem State.mwr_iff : s.mwr = true ↔ o.kind = .write := by
  simp [State.mwr, ho]

theorem State.mdOut_eq : s.mdOut = if o.kind = .write then o.work.data else none := by
  simp only [State.mdOut, ho]

theorem State.rsel_eq (n : Fin 4) : s.rsel n = o.selects.get n := by
  simp only [State.rsel, ho]

end

/-- The pins of the memory port are at rest while MSEQ is idle (R58). -/
theorem State.pins_idle {s : State} (h : s.mseq.op = none) :
    s.mrd = false ∧ s.mwr = false ∧ s.mdOut = none ∧ ∀ n, s.rsel n = false := by
  simp [State.mrd, State.mwr, State.mdOut, State.rsel, h]

theorem get_dynamicSelects (t : Quad RegionEntry) (n : Fin 4) : (dynamicSelects t).get n = (t.get n).isDynamic :=
  Quad.get_map RegionEntry.isDynamic t n

/-- Settles O28, clause by clause: the row decision, the operation that begins, its pins, the work it belongs to, the
close penalty and the DYNAMIC regions. -/
theorem operationsAndClocksOfAnAccess : Obligations.OperationsAndClocksOfAnAccess := by
  refine ⟨fun t a => ?decision, fun s w k => ?begins, fun s => ⟨State.pins_idle, fun o ho => ?pins⟩,
    fun _ _ _ _ _ => by simp [Work.access], fun t row => ⟨fun p => closePenalty_stale, closePenalty_fresh⟩,
    fun e => e.isDynamic_iff, fun t n => ?selects, fun t => anyDynamic_iff⟩
  case decision =>
    refine ⟨fun row p hp => nextForAccess_stale hp t a, fun hk => ⟨?_, fun row hrow => ?_⟩, fun hk => ⟨?_, ?_, ?_⟩⟩
    · exact nextForAccess_static hk (by simp) t
    · exact nextForAccess_static hk (by simpa using hrow) t
    · exact nextForAccess_closed hk t
    · exact fun row hfresh hregion hrow => nextForAccess_hit hk t hfresh hregion hrow
    · exact fun row hfresh hother => nextForAccess_miss hk t hfresh hother
  case begins =>
    refine ⟨opClocks w k, (opAddress w k).or s.mseq.ma, rfl, fun a ha hk => ?_, ?_, ?_, ?_, ?_, ?_⟩
    · exact ⟨opClocks_access ha hk, by rw [opAddress_access ha hk, Option.some_or]⟩
    · rintro a ha rfl
      exact ⟨opClocks_rowOpen ha, by rw [opAddress_rowOpen ha, Option.some_or]⟩
    · rintro row p rfl
      exact ⟨rfl, rfl⟩
    all_goals
      rintro rfl
      exact ⟨rfl, rfl⟩
  case pins =>
    refine ⟨State.mrd_iff ho, State.mwr_iff ho, ?_⟩
    simp only [State.mdOut_eq ho, State.rsel_eq ho]
    refine ⟨fun hk => if_neg hk, ?_, ?_, fun a n hk ha => ?_, fun row p n hk => ?_, fun sel n hk hw => ?_,
      fun sel n hk hw => ?_, fun sel n hk hw => Operation.get_selects_exit hk hw n⟩
    · exact fun a b hk hw => by rw [if_pos hk, hw, Work.data]
    · exact fun m a b hk hw => by rw [if_pos hk, hw, Work.data]
    · rw [Operation.selects_access hk ha, get_onlySelect]
    · rw [Operation.selects_rowClose hk, get_onlySelect]
    · rw [Operation.selects_refresh hk hw]
    · rw [Operation.selects_enter hk hw]
  case selects => rw [get_dynamicSelects, RegionEntry.isDynamic_iff]

/-! ### UNIT_READ_COMPLETE (R63, R117) -/

theorem exec_unitReadComplete_due {s : State} {left : Nat} {n : Fin 4} {src dst : Access}
    (hop : s.mseq.op = some ⟨.read, left, .unitRead n src dst⟩) (hholder : s.parb.holder = .channel n)
    (hext : s.mseq.extension < 256) (md : Byte) :
    exec (.unitReadComplete md) s = .next (s.finishRead n dst md) := by
  simp [exec, execUnitReadComplete, hop, hholder, State.mayComplete, hext]

theorem Channel.beginWrite_cons {c : Channel} {d : Descriptor} {rest : List Descriptor} (hq : c.queue = d :: rest) :
    c.beginWrite = { c with tend := d.endSignal && (d.remaining == 1) } := by
  simp only [Channel.beginWrite, hq]

theorem State.finishRead_eq (s : State) (n : Fin 4) (dst : Access) (md : Byte) :
    s.finishRead n dst md =
      (s.setChan n (s.chan n).beginWrite).startOp (.unitWrite n dst md)
        (nextForAccess s.rgd.regions s.mseq.record dst) :=
  State.beginWork_some rfl

/-! ### ROW_OPEN and ROW_CLOSE (R64 to R66, R73) -/

theorem exec_rowOpen_inProgress {s : State} {left : Nat} {w : Work} {a : Access}
    (hop : s.mseq.op = some ⟨.rowOpen, left, w⟩) (ha : w.access = some a) :
    exec .rowOpen s = .next (s.finishRowOpen w a) := by
  simp [exec, execRowOpen, hop, ha]

theorem State.finishRowOpen_residual {s : State} (h : s.parb.holder = .residual) (w : Work) (a : Access) :
    s.finishRowOpen w a = (s.setRecord (some a.openRow)).endGrant :=
  if_pos h

theorem State.finishRowOpen_granted {s : State} (h : s.parb.holder ≠ .residual) (w : Work) (a : Access) :
    s.finishRowOpen w a = (s.setRecord (some a.openRow)).startOp w a.mainOp :=
  if_neg h

theorem exec_rowClose_inProgress {s : State} {left : Nat} {w : Work} {row : OpenRow} {p : Nat}
    (hop : s.mseq.op = some ⟨.rowClose row p, left, w⟩) : exec .rowClose s = .next (s.finishRowClose w) := by
  simp [exec, execRowClose, hop]

theorem State.finishRowClose_residual {s : State} (h : s.parb.holder = .residual) (w : Work) :
    s.finishRowClose w = (s.setRecord none).endGrant :=
  if_pos h

section
variable {s : State} (hres : s.parb.holder ≠ .residual)
include hres

theorem State.finishRowClose_parkClose : s.finishRowClose .parkClose = (s.setRecord none).enterParked :=
  if_neg hres

theorem State.finishRowClose_next {w : Work} {k : OpKind} (hk : nextKind s.rgd.regions none w = some k) :
    s.finishRowClose w = (s.setRecord none).startOp w k := by
  have hbegin : (s.setRecord none).beginWork w = (s.setRecord none).startOp w k := State.beginWork_some hk
  cases w with
  | parkClose => simp [nextKind] at hk
  | processor | unitRead | unitWrite | refresh | enter | wakeUp | timeoutClose => exact (if_neg hres).trans hbegin

end

theorem nextKind_access {w : Work} {a : Access} (ha : w.access = some a) (t : Quad RegionEntry)
    (rec : Option OpenRow) : nextKind t rec w = some (nextForAccess t rec a) := by
  cases w <;> simp_all [nextKind, Work.access]

/-- Settles O29: each completion is due, and what follows is the next operation of its work. -/
theorem operationsFollowInsideAGrant : Obligations.OperationsFollowInsideAGrant := by
  refine ⟨fun md s left n src dst d rest hop hholder hq hext => ?read, fun s left w =>
    ⟨fun a hop ha => ⟨fun hres => ?openResidual, fun hres => ?opened⟩,
     fun row p hop => ⟨fun hres => ?closeResidual, fun hres => ⟨?access, ?refresh, ?enter, ?park⟩⟩⟩⟩
  case read =>
    rw [exec_unitReadComplete_due hop hholder hext, State.finishRead_eq, Channel.beginWrite_cons hq]
  case openResidual =>
    rw [exec_rowOpen_inProgress hop ha, State.finishRowOpen_residual hres]
    rfl
  case opened =>
    rw [exec_rowOpen_inProgress hop ha, State.finishRowOpen_granted hres]
    rfl
  case closeResidual =>
    rw [exec_rowClose_inProgress hop, State.finishRowClose_residual hres]
    rfl
  case access =>
    intro a ha
    rw [exec_rowClose_inProgress hop, State.finishRowClose_next hres (nextKind_access ha _ _)]
    rfl
  case refresh =>
    rintro sel rfl
    rw [exec_rowClose_inProgress hop, State.finishRowClose_next hres rfl]
    rfl
  case enter =>
    rintro sel rfl
    rw [exec_rowClose_inProgress hop, State.finishRowClose_next hres rfl]
    rfl
  case park =>
    rintro rfl
    rw [exec_rowClose_inProgress hop, State.finishRowClose_parkClose hres]
    rfl

end Sys2Proof.Machine
end

section
/-! TIMEOUT (R68): the report to the requester first, then the row that was open closed under RESIDUAL, or the port
free. -/
namespace Sys2Proof.Machine

/-! ### What is left when the requester has been told (R68) -/

theorem exec_timeout_due {s : State} {o : Operation} {a : Access} (hop : s.mseq.op = some o)
    (hk : o.kind = .read ∨ o.kind = .write) (ha : o.work.access = some a) (hready : a.entry.readyEnable = true) :
    exec .timeout s = .next (s.endInTimeout a) := by
  simp only [exec, execTimeout, State.extensible_of_access hop hk ha hready]

section
variable {s told : State} {a : Access} (htold : s.reportTimeout a = told) (hmseq : told.mseq = s.mseq)
  (hparb : told.parb = s.parb)
include htold hmseq hparb

theorem State.endInTimeout_row {row : OpenRow} (hrow : s.mseq.record = some row) :
    s.endInTimeout a =
      State.startOp { told with mseq := { s.mseq with record := none }, parb := { s.parb with holder := .residual } }
        .timeoutClose (.rowClose row (closePenalty s.rgd.regions row)) := by
  rw [State.endInTimeout_eq, htold, hrow, ← hmseq, ← hparb]
  rfl

theorem State.endInTimeout_noRow (hrow : s.mseq.record = none) :
    s.endInTimeout a =
      { told with mseq := { s.mseq with op := none, record := none, extension := 0 },
                  parb := { s.parb with holder := .none } } := by
  rw [State.endInTimeout_eq, htold, hrow, ← hmseq, ← hparb]
  rfl

end

/-! ### The report (R41, R111, R125) -/

/-- The report of a faulted cycle, and the processor released with FFh for a READ (R35, R41). -/
theorem State.faultCycle_eq (s : State) (c : CycleRecord) (kind : FaultKind) :
    s.faultCycle c kind =
      { s.fileFault { source := .processor, kind := kind, dir := c.dir.fault, logical := some c.logical,
                      physical := c.physical, tag := none } with
        pbi :=
          if s.pbi.memc = true ∧ s.pbi.held = none then
            { s.pbi with phase := .ending,
                         cycle := some (if c.dir = .read then { c with readData := some 0xFF } else c) }
          else { s.pbi with phase := .idle, cycle := none } } := by
  have hdata : ({ c with readData := if c.dir = .read then some 0xFF else c.readData } : CycleRecord) =
      if c.dir = .read then { c with readData := some 0xFF } else c := by split <;> rfl
  by_cases h : s.pbi.memc = true ∧ s.pbi.held = none <;>
    simp only [State.faultCycle, State.releaseProcessor, State.fileFault_pbi, hdata, h, and_self, if_true, if_false]

theorem State.reportTimeout_processor {s : State} {c : CycleRecord} (h : s.parb.holder = .processor)
    (hc : s.pbi.cycle = some c) (a : Access) : s.reportTimeout a = s.faultCycle c .timeout := by
  simp only [State.reportTimeout, h, hc]

theorem State.reportTimeout_residual {s : State} (h : s.parb.holder = .residual) (a : Access) :
    s.reportTimeout a = s := by
  simp only [State.reportTimeout, h]

/-- A unit that timed out: its report, then the pending flush with its count, or FAULTED (R111, R125). -/
theorem State.reportTimeout_channel {s : State} {n : Fin 4} {d : Descriptor} {rest : List Descriptor}
    (h : s.parb.holder = .channel n) (hq : (s.chan n).queue = d :: rest) (a : Access) :
    s.reportTimeout a =
      let filed := s.fileFault { source := .channel n, kind := .timeout, dir := a.dir.fault, logical := none,
                                 physical := some a.addr, tag := some d.tag }
      if (s.chan n).flushPending then
        let u := filed.setChan n (s.chan n).flushed
        { u with txe := { u.txe with flushn := rest.length + 1 } }
      else filed.setChan n { (s.chan n).release with state := .faulted, holdPending := false } := by
  simp only [State.reportTimeout, h, State.timeoutUnit, State.flushNow, Channel.headTag, State.chan_fileFault, hq,
    List.head?_cons, Option.map_some, List.length_cons]

theorem State.reportTimeout_channel_frame {s : State} {n : Fin 4} (h : s.parb.holder = .channel n) (a : Access) :
    (s.reportTimeout a).mseq = s.mseq ∧ (s.reportTimeout a).parb = s.parb := by
  simp only [State.reportTimeout, h, State.timeoutUnit, State.flushNow]
  split <;> simp

/-- Settles O30: the requester's report by the holder, then the record cleared with a row open or none. -/
theorem timeoutTellsTheRequesterThenClosesTheRow : Obligations.TimeoutTellsTheRequesterThenClosesTheRow := by
  refine ⟨fun s k left a b c hop hk hready hholder hc => ?processor,
    fun s k left w a n d rest hop hk ha hready hholder hq => ?unit,
    fun s k left w a hop hk ha hready hholder => ?residual, rfl, rfl⟩
  case processor =>
    have htold := (State.reportTimeout_processor hholder hc a).trans (s.faultCycle_eq c .timeout)
    have hfree := State.endInTimeout_noRow htold (by simp) (by simp)
    rw [exec_timeout_due hop hk rfl hready]
    exact ⟨fun row hrow => congrArg _ (State.endInTimeout_row htold (by simp) (by simp) hrow),
      fun hrow => congrArg _ (hfree hrow)⟩
  case unit =>
    obtain ⟨hmseq, hparb⟩ := State.reportTimeout_channel_frame hholder a
    have htold := State.reportTimeout_channel hholder hq a
    rw [htold] at hmseq hparb
    rw [exec_timeout_due hop hk ha hready]
    exact ⟨fun row hrow => congrArg _ (State.endInTimeout_row htold hmseq hparb hrow),
      fun hrow => congrArg _ (State.endInTimeout_noRow htold hmseq hparb hrow)⟩
  case residual =>
    have htold := State.reportTimeout_residual hholder a
    rw [exec_timeout_due hop hk ha hready]
    refine ⟨fun row hrow => congrArg _ ?_, fun hrow => congrArg _ ?_⟩
    · rw [State.endInTimeout_row htold rfl rfl hrow, ← hholder]
    · rw [State.endInTimeout_noRow htold rfl rfl hrow, ← hrow]

end Sys2Proof.Machine
end

section
/-! The clock (log 1): what a step does with no command waiting, and that an operation that ends leaves the interval
timer as it stands unless it ends a wake. -/
namespace Sys2Proof.Machine

/-! ### The end of an operation leaves the interval timer (R77, R88) -/

theorem State.rpc_of_portView {s t : State} (h : t.portView.2 = s.portView.2) : t.rpc = s.rpc :=
  congrArg (fun v => v.2.2.1) h

@[simp] theorem State.releaseProcessor_rpc (s : State) (c : CycleRecord) : (s.releaseProcessor c).rpc = s.rpc :=
  State.rpc_of_portView (s.portView_releaseProcessor c)

@[simp] theorem State.beginWork_rpc (s : State) (w : Work) : (s.beginWork w).rpc = s.rpc := by
  rw [s.beginWork_eq w]

@[simp] theorem State.beginUnit_rpc (s : State) (n : Fin 4) (d : Descriptor) (src dst : Fin 4) :
    (s.beginUnit n d src dst).rpc = s.rpc :=
  s.beginWork_rpc _

@[simp] theorem State.postHead_rpc (s : State) (n : Fin 4) (status : Status) : (s.postHead n status).rpc = s.rpc :=
  State.rpc_of_portView (congrArg Prod.snd (s.portView_postHead n status))

@[simp] theorem State.actPending_rpc (s : State) (n : Fin 4) : (s.actPending n).rpc = s.rpc :=
  State.rpc_of_portView (congrArg Prod.snd (s.portView_actPending n))

@[simp] theorem State.timeoutUnit_rpc (s : State) (n : Fin 4) (a : Access) : (s.timeoutUnit n a).rpc = s.rpc :=
  State.rpc_of_portView (congrArg Prod.snd (s.portView_timeoutUnit n a))

@[simp] theorem State.faultCycle_rpc (s : State) (c : CycleRecord) (kind : FaultKind) :
    (s.faultCycle c kind).rpc = s.rpc := by
  simp [State.faultCycle]

@[simp] theorem State.finishAccess_rpc (s : State) (md : Byte) : (s.finishAccess md).rpc = s.rpc := by
  unfold State.finishAccess
  split <;> simp

@[simp] theorem State.finishRead_rpc (s : State) (n : Fin 4) (dst : Access) (md : Byte) :
    (s.finishRead n dst md).rpc = s.rpc := by
  simp [State.finishRead]

@[simp] theorem State.finishUnit_rpc (s : State) (n : Fin 4) : (s.finishUnit n).rpc = s.rpc := by
  unfold State.finishUnit
  dsimp only
  repeat' split
  all_goals simp

@[simp] theorem State.reportTimeout_rpc (s : State) (a : Access) : (s.reportTimeout a).rpc = s.rpc := by
  unfold State.reportTimeout
  repeat' split
  all_goals simp

@[simp] theorem State.endInTimeout_rpc (s : State) (a : Access) : (s.endInTimeout a).rpc = s.rpc := by
  unfold State.endInTimeout
  dsimp only
  split <;> simp

@[simp] theorem State.finishRowOpen_rpc (s : State) (w : Work) (a : Access) : (s.finishRowOpen w a).rpc = s.rpc := by
  unfold State.finishRowOpen
  dsimp only
  split <;> simp

@[simp] theorem State.enterParked_timer (s : State) : s.enterParked.rpc.timer = s.rpc.timer := by
  unfold State.enterParked State.startWake
  dsimp only
  split <;> rfl

@[simp] theorem State.finishRowClose_timer (s : State) (w : Work) :
    (s.finishRowClose w).rpc.timer = s.rpc.timer := by
  unfold State.finishRowClose
  dsimp only
  repeat' split
  all_goals simp

/-- The outcome is a next state with the interval timer of `s`. -/
def KeepsTimer (s : State) (o : Host.Outcome State Fault Refusal) : Prop :=
  ∃ t, o = .next t ∧ t.rpc.timer = s.rpc.timer

@[simp] theorem keepsTimer_next {s t : State} : KeepsTimer s (.next t) ↔ t.rpc.timer = s.rpc.timer := by
  simp [KeepsTimer]

theorem KeepsTimer.nextOr {s : State} {o : Host.Outcome State Fault Refusal} (h : KeepsTimer s o) (u : State) :
    (nextOr u o).rpc.timer = s.rpc.timer := by
  obtain ⟨t, rfl, ht⟩ := h
  exact ht

theorem execAccessComplete_keepsTimer (md : Byte) (s : State) : KeepsTimer s (execAccessComplete md s) := by
  unfold execAccessComplete
  dsimp only
  repeat' split
  all_goals simp

theorem execUnitReadComplete_keepsTimer (md : Byte) (s : State) : KeepsTimer s (execUnitReadComplete md s) := by
  unfold execUnitReadComplete
  repeat' split
  all_goals simp

theorem execUnitComplete_keepsTimer (s : State) : KeepsTimer s (execUnitComplete s) := by
  unfold execUnitComplete
  repeat' split
  all_goals simp

theorem execResidualEnd_keepsTimer (s : State) : KeepsTimer s (execResidualEnd s) := by
  unfold execResidualEnd
  repeat' split
  all_goals simp

theorem execRowOpen_keepsTimer (s : State) : KeepsTimer s (execRowOpen s) := by
  unfold execRowOpen
  repeat' split
  all_goals simp

theorem execRowClose_keepsTimer (s : State) : KeepsTimer s (execRowClose s) := by
  unfold execRowClose
  split <;> simp

theorem execRefresh_keepsTimer (s : State) : KeepsTimer s (execRefresh s) := by
  unfold execRefresh
  repeat' split
  all_goals simp [State.finishRefresh]

theorem execSelfRefreshEnter_keepsTimer (s : State) : KeepsTimer s (execSelfRefreshEnter s) := by
  unfold execSelfRefreshEnter
  repeat' split
  all_goals simp

/-- SELF_REFRESH_EXIT starts the timer at the end of a wake alone (R88). -/
theorem execSelfRefreshExit_keepsTimer {s : State} (hawake : s.rpc.portState ≠ .waking) :
    KeepsTimer s (execSelfRefreshExit s) := by
  unfold execSelfRefreshExit
  split <;> simp [hawake]

theorem State.completeAccess_timer (s : State) : s.completeAccess.rpc.timer = s.rpc.timer := by
  unfold State.completeAccess
  repeat' split
  · exact (execResidualEnd_keepsTimer s).nextOr s
  · exact (execAccessComplete_keepsTimer _ s.useFree).nextOr s
  · exact (execUnitReadComplete_keepsTimer _ s.useFree).nextOr s
  · exact (execUnitComplete_keepsTimer s).nextOr s
  · rfl

theorem State.sample_timer (s : State) (a : Access) : (s.sample a).rpc.timer = s.rpc.timer := by
  unfold State.sample
  repeat' split
  · rw [State.endInTimeout_rpc]
  · exact s.useFree.completeAccess_timer
  · rfl
  · exact s.completeAccess_timer

theorem State.endOp_timer {s : State} (hawake : s.rpc.portState ≠ .waking) (o : Operation) :
    (s.endOp o).rpc.timer = s.rpc.timer := by
  unfold State.endOp
  cases o.kind with
  | read | write =>
    dsimp only
    split
    · exact s.sample_timer _
    · rfl
  | rowOpen => exact (execRowOpen_keepsTimer s).nextOr s
  | rowClose row penalty => exact (execRowClose_keepsTimer s).nextOr s
  | refresh => exact (execRefresh_keepsTimer s).nextOr s
  | selfRefreshEnter => exact (execSelfRefreshEnter_keepsTimer s).nextOr s
  | selfRefreshExit => exact (execSelfRefreshExit_keepsTimer hawake).nextOr s

/-- The timer is stopped while the port wakes (R77, R82). -/
theorem State.not_waking_of_timer {s : State} (h : s.PortOk) (ht : s.rpc.timer.isSome = true) :
    s.rpc.portState ≠ .waking := by
  obtain ⟨_, _, _, _, htimer, _⟩ := h
  obtain ⟨_, _, hgate⟩ := htimer.mp ht
  intro hwaking
  simp [Rpc.timerGate, hwaking] at hgate

/-! ### The timer's clock (R77, R78) -/

theorem exec_intervalTimerExpiry_eq {s : State} (h : ∀ k ∈ s.rpc.timer, k ≤ 1) :
    exec .intervalTimerExpiry s = .next s.clockTimer := by
  change execIntervalTimerExpiry s = _
  cases ht : s.rpc.timer with
  | none => simp [execIntervalTimerExpiry, State.clockTimer, ht]
  | some k => simp [execIntervalTimerExpiry, State.clockTimer, ht, h k ht]

theorem State.expiryNow_iff (s : State) : s.expiryNow = true ↔ s.rpc.timer = some 0 ∨ s.rpc.timer = some 1 := by
  cases ht : s.rpc.timer with
  | none => simp [State.expiryNow, ht]
  | some k => simp [State.expiryNow, ht, Nat.le_one_iff_eq_zero_or_eq_one]

theorem State.timer_le_one {s : State} (h : s.rpc.timer = some 0 ∨ s.rpc.timer = some 1) :
    ∀ k ∈ s.rpc.timer, k ≤ 1 := by
  rcases h with h | h <;> simp [h]

theorem State.clockTimer_counts {s : State} (h : ¬(s.rpc.timer = some 0 ∨ s.rpc.timer = some 1)) :
    s.clockTimer = { s with rpc := { s.rpc with timer := s.rpc.timer.map (fun k => k - 1) } } := by
  cases ht : s.rpc.timer with
  | none =>
    simp only [State.clockTimer, ht, Option.map_none]
    rw [← ht]
  | some k =>
    have hlate : ¬k ≤ 1 := by simpa [ht, Nat.le_one_iff_eq_zero_or_eq_one] using h
    simp only [State.clockTimer, ht, hlate, if_false, Option.map_some]

/-- The timer's clock and MSEQ do not touch each other. -/
theorem State.clockTimer_withMseq (s : State) (m : Mseq) :
    State.clockTimer { s with mseq := m } = { s.clockTimer with mseq := m } := by
  unfold State.clockTimer State.expire
  dsimp only
  repeat' split
  all_goals rfl

@[simp] theorem State.clockTimer_mseq (s : State) : s.clockTimer.mseq = s.mseq := by
  unfold State.clockTimer State.expire
  dsimp only
  repeat' split
  all_goals rfl

/-! ### The operation's clock (R59, R67) -/

theorem State.clockOp_none {s : State} (h : s.mseq.op = none) : s.clockOp = s := by
  simp only [State.clockOp, h]

theorem State.clockOp_counts {s : State} {o : Operation} (h : s.mseq.op = some o) (hleft : 1 < o.left) :
    s.clockOp = { s with mseq := { s.mseq with op := some { o with left := o.left - 1 } } } := by
  simp only [State.clockOp, h, hleft, if_true]

theorem State.clockOp_ends {s : State} {o : Operation} (h : s.mseq.op = some o) (hleft : o.left ≤ 1) :
    s.clockOp = s.endOp o := by
  simp only [State.clockOp, h, Nat.not_lt.mpr hleft, if_false]

theorem nextOr_exec (c : Instr) (s u : State) : Host.Outcome.next (nextOr u (exec c s)) = exec c s := by
  obtain ⟨t, ht⟩ := exec_answers c s
  rw [ht]
  rfl

theorem State.accessEnds_completeAccess {s : State} {o : Operation} (hop : s.mseq.op = some o) :
    s.accessEnds o.work (.next s.completeAccess) := by
  obtain ⟨k, left, w⟩ := o
  refine ⟨fun hres => ?_, fun hres => ⟨?_, ?_, ?_⟩⟩
  · rw [State.completeAccess, if_pos hres]
    exact nextOr_exec .residualEnd s s
  · rintro a b rfl
    rw [State.completeAccess, if_neg hres, hop]
    exact ⟨_, nextOr_exec (.accessComplete (Config.bankByte s.freeCount)) s.useFree s⟩
  · rintro n src dst rfl
    rw [State.completeAccess, if_neg hres, hop]
    exact ⟨_, nextOr_exec (.unitReadComplete (Config.bankByte s.freeCount)) s.useFree s⟩
  · rintro n dst b rfl
    rw [State.completeAccess, if_neg hres, hop]
    exact nextOr_exec .unitComplete s s

section
variable {s : State} {a : Access}

theorem State.sample_plain (h : a.entry.readyEnable = false) : s.sample a = s.completeAccess := by
  simp [State.sample, h]

theorem State.sample_late (h : a.entry.readyEnable = true) (hlate : 256 ≤ s.mseq.extension) :
    s.sample a = s.endInTimeout a := by
  simp [State.sample, h, hlate]

theorem State.sample_early (h : a.entry.readyEnable = true) (hext : s.mseq.extension < 256) :
    s.sample a = s.useFree.completeAccess ∨
      s.sample a = { s.useFree with mseq := { s.mseq with
        extension := s.mseq.extension + 1, op := s.mseq.op.map (fun o => { o with left := 0 }) } } := by
  cases hx : Config.xrdySample s.freeCount <;> simp [State.sample, h, Nat.not_le.mpr hext, hx]

end

theorem State.endOp_access {s : State} {o : Operation} {a : Access} (hk : o.kind = .read ∨ o.kind = .write)
    (ha : o.work.access = some a) : s.endOp o = s.sample a := by
  rcases hk with hk | hk <;> simp only [State.endOp, hk, ha]

/-- The end of the operation in progress is what its kind asks for. -/
theorem State.lastClock_endOp {s : State} {o : Operation} (hop : s.mseq.op = some o) :
    s.lastClock o (.next (s.endOp o)) := by
  obtain ⟨k, left, w⟩ := o
  refine ⟨fun hk => ?_, fun row p hk => ?_, fun hk => ?_, fun hk => ?_, fun hk => ?_, fun a hk ha => ?_⟩
  · subst hk
    exact nextOr_exec .rowOpen s s
  · subst hk
    exact nextOr_exec .rowClose s s
  · subst hk
    exact nextOr_exec .refresh s s
  · subst hk
    exact nextOr_exec .selfRefreshEnter s s
  · subst hk
    exact nextOr_exec .selfRefreshExit s s
  · rw [State.endOp_access hk ha]
    refine ⟨fun hplain => ?_, fun hready hlate => ?_, fun hready hext => ?_⟩
    · rw [State.sample_plain hplain]
      exact State.accessEnds_completeAccess hop
    · rw [State.sample_late hready hlate, exec_timeout_due hop hk ha hready]
    · rcases State.sample_early hready hext with h | h <;> rw [h]
      · exact .inl (State.accessEnds_completeAccess (s := s.useFree) hop)
      · rw [hop]
        exact .inr rfl

/-! ### The step with no command waiting (R48, R81, R85) -/

theorem step_idle {s : State} (h : s.pending = []) : step s = .next s.idle := by
  simp only [step, h]

theorem State.idle_parkStep {s : State} (h : s.parkStepDue = true) : exec .parkStep s = .next s.idle := by
  simp [exec, execParkStep, State.idle, h]

theorem State.idle_grant {s : State} (hdue : s.parkStepDue = false) (hfree : s.parb.holder = .none)
    (hd : s.decision ≠ none) : exec .portGrant s = .next s.idle := by
  simp [exec, execPortGrant, State.idle, hdue, hfree, Option.isSome_iff_ne_none.mpr hd]

theorem State.idle_clock {s : State} (h : s.nothingDue) : s.idle = s.clock := by
  obtain ⟨hdue, hgrant⟩ := h
  rcases hgrant with h | h <;> simp [State.idle, hdue, h]

/-- An expiry or the end of an operation, but not both: the two clocks do not meet. -/
theorem State.clock_apart {s : State} (h : ¬(s.expiryNow = true ∧ s.opEndsNow = true)) :
    s.clock = s.clockTimer.clockOp := by
  simp only [State.clock, Bool.and_eq_true, h, if_false]

theorem State.clock_together {s : State} (hexpiry : s.expiryNow = true) (hend : s.opEndsNow = true) :
    s.clock = s.useFree.clockTimer.clockOp ∨ s.clock = s.useFree.clockOp.clockTimer := by
  cases hx : Config.expiryFirst s.freeCount <;> simp [State.clock, hexpiry, hend, hx]

theorem State.opEndsNow_none {s : State} (h : s.mseq.op = none) : s.opEndsNow = false := by
  simp only [State.opEndsNow, h]

theorem State.opEndsNow_some {s : State} {o : Operation} (h : s.mseq.op = some o) :
    s.opEndsNow = decide (o.left ≤ 1) := by
  simp only [State.opEndsNow, h]

/-- A clock that is not the last of an operation: the interval timer counts it, or expires. -/
theorem State.clock_busy {s : State} {o : Operation} (hop : s.mseq.op = some o) (hleft : 1 < o.left) :
    s.clock =
      State.clockTimer { s with mseq := { s.mseq with op := some { o with left := o.left - 1 } } } := by
  have hcontinues : s.opEndsNow = false := by
    rw [State.opEndsNow_some hop]
    exact decide_eq_false (Nat.not_le.mpr hleft)
  have hop' : s.clockTimer.mseq.op = some o := by rw [State.clockTimer_mseq, hop]
  rw [State.clock_apart (by simp [hcontinues]), State.clockOp_counts hop' hleft, State.clockTimer_mseq]
  exact (s.clockTimer_withMseq _).symm

theorem State.clock_idle {s : State} (hop : s.mseq.op = none) : s.clock = s.clockTimer := by
  rw [State.clock_apart (by simp [State.opEndsNow_none hop]), State.clockOp_none (by rw [State.clockTimer_mseq, hop])]

/-- An operation's last clock, with the expiry of the timer taken before it. -/
theorem State.lastClock_clockOp {s : State} {o : Operation} (hop : s.mseq.op = some o) (hleft : o.left ≤ 1) :
    s.clockTimer.lastClock o (.next s.clockTimer.clockOp) := by
  have hop' : s.clockTimer.mseq.op = some o := by rw [State.clockTimer_mseq, hop]
  rw [State.clockOp_ends hop' hleft]
  exact State.lastClock_endOp hop'

/-- An expiry and the last clock of an operation together, in one order or the other (R81; log 7). -/
theorem State.clock_both {s : State} {o : Operation} (hport : s.PortOk) (hop : s.mseq.op = some o)
    (hleft : o.left ≤ 1) (hexpires : s.rpc.timer = some 0 ∨ s.rpc.timer = some 1) :
    (∃ t, exec .intervalTimerExpiry s.useFree = .next t ∧ t.lastClock o (.next s.clock)) ∨
      ∃ t, s.useFree.lastClock o (.next t) ∧ Host.Outcome.next s.clock = exec .intervalTimerExpiry t := by
  have hsoon := State.timer_le_one hexpires
  have hends : s.opEndsNow = true := by
    rw [State.opEndsNow_some hop]
    exact decide_eq_true hleft
  rcases State.clock_together (s.expiryNow_iff.mpr hexpires) hends with hclock | hclock <;> rw [hclock]
  · exact .inl ⟨_, exec_intervalTimerExpiry_eq hsoon, State.lastClock_clockOp (s := s.useFree) hop hleft⟩
  · have hrunning : s.rpc.timer.isSome = true := by rcases hexpires with h | h <;> simp [h]
    have hkept : (s.useFree.endOp o).rpc.timer = s.rpc.timer :=
      State.endOp_timer (s := s.useFree) (State.not_waking_of_timer hport hrunning) o
    rw [State.clockOp_ends (s := s.useFree) hop hleft]
    exact .inr ⟨_, State.lastClock_endOp (s := s.useFree) hop, (exec_intervalTimerExpiry_eq (hkept ▸ hsoon)).symm⟩

/-- Settles O3: what is due first, else the two clocks, apart or together. -/
theorem idleStepCountsOneClock : Obligations.IdleStepCountsOneClock := by
  intro s hq
  rw [step_idle hq]
  refine ⟨fun hdue => (State.idle_parkStep hdue).symm, fun hdue hfree hd => (State.idle_grant hdue hfree hd).symm,
    fun hnothing => ?_⟩
  rw [State.idle_clock hnothing]
  refine ⟨fun hop => ⟨fun hlate => ?_, fun hexpires => ?_⟩, fun o hop hleft => ⟨fun hlate => ?_, fun hexpires => ?_⟩,
    fun o hop hleft => ⟨fun hlate => ?_, fun hexpires hport => State.clock_both hport hop hleft hexpires⟩⟩
  · rw [State.clock_idle hop, State.clockTimer_counts hlate]
  · rw [State.clock_idle hop, exec_intervalTimerExpiry_eq (State.timer_le_one hexpires)]
  · rw [State.clock_busy hop hleft, State.clockTimer_withMseq, State.clockTimer_counts hlate]
  · rw [State.clock_busy hop hleft]
    refine (exec_intervalTimerExpiry_eq ?_).symm
    exact State.timer_le_one hexpires
  · have happart : ¬(s.expiryNow = true ∧ s.opEndsNow = true) := fun h => hlate (s.expiryNow_iff.mp h.1)
    have hlast := State.lastClock_clockOp hop hleft
    rwa [← State.clock_apart happart, State.clockTimer_counts hlate] at hlast

end Sys2Proof.Machine
end

section
/-! The refresh and park controller (chapter 6): the debt and the interval timer, RFINT and RFURG, the park step and its
end, and what PARK and WAKE do in each port state. -/
namespace Sys2Proof.Machine

/-! ### REFRESH, the expiry and PORTSTAT (R69, R78, R79, R89) -/

theorem exec_refresh_due {s : State} {left : Nat} {w : Work} (hop : s.mseq.op = some ⟨.refresh, left, w⟩)
    (hholder : s.parb.holder = .refresh) : exec .refresh s = .next s.finishRefresh := by
  simp [exec, execRefresh, hop, hholder]

theorem intervalOf_eq (rfint : BitVec 12) :
    intervalOf rfint = if rfint = 0 then none else some (max 16 rfint.toNat) := by
  have hzero : rfint.toNat = 0 ↔ rfint = 0 := BitVec.toNat_eq (y := 0#12).symm
  simp only [intervalOf, hzero]

theorem exec_intervalTimerExpiry_stopped {s : State} (h : s.rpc.timer = none) :
    exec .intervalTimerExpiry s = .next s := by
  simp [exec, execIntervalTimerExpiry, h]

theorem exec_intervalTimerExpiry_running {s : State} {k : Nat} (h : s.rpc.timer = some k) :
    exec .intervalTimerExpiry s = .next s.expire := by
  simp [exec, execIntervalTimerExpiry, h]

theorem State.expire_below {s : State} (h : s.rpc.debt < 8) :
    s.expire =
      { s with rpc := { s.rpc with timer := intervalOf s.rpc.rfint, debt := s.rpc.debt + 1 } } :=
  if_pos h

theorem State.expire_full {s : State} (h : 8 ≤ s.rpc.debt) :
    s.expire =
      { s with rpc := { s.rpc with timer := intervalOf s.rpc.rfint }, iru := { s.iru with lost := true } } :=
  if_neg (Nat.not_lt.mpr h)

theorem State.readRegister_portstat (s : State) : s.readRegister 0x47 = s.portstat := by rfl

/-- PORTSTAT: the debt in bits 0 to 3, the port state in bits 4 and 5 (11.8). -/
theorem State.portstat_toNat {s : State} (h : s.rpc.debt ≤ 8) :
    s.portstat.toNat = 16 * s.rpc.portState.code.toNat + s.rpc.debt := by
  have hcode := s.rpc.portState.code.isLt
  have hdebt : s.rpc.debt < 16 := by omega
  unfold State.portstat
  rw [BitVec.toNat_append, ← Nat.shiftLeft_add_eq_or_of_lt (BitVec.isLt _), BitVec.toNat_append,
    ← Nat.shiftLeft_add_eq_or_of_lt (BitVec.isLt _)]
  simp [Nat.shiftLeft_eq, Nat.mod_eq_of_lt hdebt]
  omega

/-- Settles O33: REFRESH by the end of its grant, an expiry by the debt below 8 or at 8, PORTSTAT by its two fields. -/
theorem expiriesRaiseAndRefreshesPayTheDebt : Obligations.ExpiriesRaiseAndRefreshesPayTheDebt := by
  refine ⟨fun s left w hop hholder => ?refresh,
    fun s => ⟨exec_intervalTimerExpiry_stopped, fun k htimer => ⟨fun hdebt => ?below, fun hdebt => ?full⟩⟩,
    fun s hdebt => ?portstat⟩
  case refresh =>
    rw [exec_refresh_due hop hholder]
    rfl
  case below => rw [exec_intervalTimerExpiry_running htimer, State.expire_below hdebt, intervalOf_eq]
  case full => rw [exec_intervalTimerExpiry_running htimer, State.expire_full hdebt, intervalOf_eq]
  case portstat =>
    rw [State.readRegister_portstat, State.portstat_toNat hdebt]
    refine ⟨fun hp => ?_, fun hp => ?_, fun hp => ?_, fun hp => ?_⟩ <;> simp [hp, PortState.code]

/-! ### RFINT (R76, R77) -/

theorem exec_rfintWrite_quiet {s : State} (hs : s.busQuiet) (high : Bool) (data : Byte) :
    exec (.rfintWrite high data) s = .next (s.released.writeRfint high data) :=
  congrArg Host.Outcome.next (State.windowCycle_quiet hs _)

/-- The three conditions of R77 and the interval of R76. -/
theorem timerStart_eq (r : Rpc) (dyn : Bool) :
    timerStart r dyn =
      if r.rfint ≠ 0 ∧ dyn = true ∧ (r.portState = .running ∨ r.portState = .draining ∧ r.parkStep = false) then
        some (max 16 r.rfint.toNat)
      else none := by
  cases dyn with
  | false => simp [timerStart]
  | true => simp only [timerStart_true, true_and]

theorem rfint_lowByte_toNat (v : BitVec 12) (b : Byte) :
    (v.extractLsb' 8 4 ++ b).toNat = 256 * (v.toNat / 256) + b.toNat := by
  have hv := v.isLt
  rw [BitVec.toNat_append, ← Nat.shiftLeft_add_eq_or_of_lt (BitVec.isLt _)]
  simp [Nat.shiftLeft_eq, Nat.shiftRight_eq_div_pow]
  omega

theorem rfint_highByte_toNat (v : BitVec 12) (b : Byte) :
    (b.extractLsb' 0 4 ++ v.extractLsb' 0 8).toNat = 256 * (b.toNat % 16) + v.toNat % 256 := by
  rw [BitVec.toNat_append, ← Nat.shiftLeft_add_eq_or_of_lt (BitVec.isLt _)]
  simp [Nat.shiftLeft_eq]
  omega

theorem State.readRegister_rfintLow (s : State) : (s.readRegister 0x44).toNat = s.rpc.rfint.toNat % 256 :=
  BitVec.extractLsb'_toNat 0 8 s.rpc.rfint

theorem State.readRegister_rfintHigh (s : State) : (s.readRegister 0x45).toNat = s.rpc.rfint.toNat / 256 := by
  have hv := s.rpc.rfint.isLt
  change ((s.rpc.rfint.extractLsb' 8 4).setWidth 8).toNat = _
  simp [Nat.shiftRight_eq_div_pow]
  omega

/-- Settles O34: the byte written by its place in RFINT, the timer by the conditions of its start. -/
theorem rfintWriteRestartsTheTimer : Obligations.RfintWriteRestartsTheTimer := by
  refine ⟨fun high data s hs => ?write, fun u => ⟨u.readRegister_rfintLow, u.readRegister_rfintHigh⟩⟩
  case write =>
    rw [exec_rfintWrite_quiet hs, State.writeRfint, timerStart_eq]
    cases high with
    | false => exact ⟨_, rfl, fun _ => rfint_lowByte_toNat _ data, by simp⟩
    | true => exact ⟨_, rfl, by simp, fun _ => rfint_highByte_toNat _ data⟩

/-! ### RFURG (R80) -/

theorem exec_rfurgWrite_quiet {s : State} (hs : s.busQuiet) (data : Byte) :
    exec (.rfurgWrite data) s = .next (s.released.writeRfurg data) :=
  congrArg Host.Outcome.next (State.windowCycle_quiet hs _)

theorem State.writeRfurg_stored {data : Byte} (hlow : 1 ≤ data.toNat) (hhigh : data.toNat ≤ 8) (s : State) :
    s.writeRfurg data = { s with rpc := { s.rpc with rfurg := data.toNat } } :=
  if_pos ⟨hlow, hhigh⟩

theorem State.writeRfurg_ignored {data : Byte} (h : data.toNat = 0 ∨ 8 < data.toNat) (s : State) :
    s.writeRfurg data = s :=
  if_neg (by omega)

theorem State.readRegister_rfurg (s : State) : s.readRegister 0x46 = BitVec.ofNat 8 s.rpc.rfurg := by rfl

theorem State.refreshUrgent_running {s : State} (h : s.rpc.portState = .running) :
    s.refreshUrgent = true ↔ s.rpc.rfurg ≤ s.rpc.debt := by
  simp [State.refreshUrgent, h]

theorem State.refreshUrgent_draining {s : State} (h : s.rpc.portState = .draining) : s.refreshUrgent = true := by
  simp [State.refreshUrgent, h]

/-- Settles O35: the values stored, those ignored, and the priority in each of the two port states. -/
theorem rfurgWriteSetsTheThreshold : Obligations.RfurgWriteSetsTheThreshold := by
  intro data s hs
  rw [exec_rfurgWrite_quiet hs]
  refine ⟨fun hlow hhigh => ?stored, fun hout => ?ignored,
    fun u => ⟨State.refreshUrgent_running, State.refreshUrgent_draining⟩⟩
  case stored =>
    rw [State.writeRfurg_stored hlow hhigh]
    refine ⟨rfl, ?_⟩
    rintro t ⟨⟩
    rw [State.readRegister_rfurg]
    simp
  case ignored => rw [State.writeRfurg_ignored hout]

/-! ### A stale close in front of the park step (R66) -/

theorem afterStale_stale {row : OpenRow} {p : Nat} (h : row.stale = some p) (t : Quad RegionEntry) (k : OpKind) :
    afterStale t (some row) k = .rowClose row p := by
  simp [afterStale, closePenalty_stale h, h]

theorem afterStale_fresh {rec : Option OpenRow} (h : rec.bind OpenRow.stale = none) (t : Quad RegionEntry)
    (k : OpKind) : afterStale t rec k = k := by
  cases rec with
  | none => rfl
  | some row =>
    have hrow : row.stale = none := h
    simp [afterStale, hrow]

theorem nextKind_parkClose_stale {row : OpenRow} {p : Nat} (h : row.stale = some p) (t : Quad RegionEntry) :
    nextKind t (some row) .parkClose = some (.rowClose row p) := by
  simp [nextKind, closePenalty_stale h, h]

theorem nextKind_parkClose_fresh {rec : Option OpenRow} (h : rec.bind OpenRow.stale = none)
    (t : Quad RegionEntry) : nextKind t rec .parkClose = none := by
  cases rec with
  | none => rfl
  | some row =>
    have hrow : row.stale = none := h
    simp [nextKind, hrow]

/-! ### The end of the park step and of a wake (R70, R71, R85, R88) -/

section
variable {s : State} {left : Nat} {w : Work}

theorem exec_selfRefreshEnter_due (hop : s.mseq.op = some ⟨.selfRefreshEnter, left, w⟩)
    (hstep : s.rpc.parkStep = true) : exec .selfRefreshEnter s = .next s.enterParked := by
  simp [exec, execSelfRefreshEnter, hop, hstep]

theorem exec_selfRefreshExit_due (hop : s.mseq.op = some ⟨.selfRefreshExit, left, w⟩)
    (hwaking : s.rpc.portState = .waking) : exec .selfRefreshExit s = .next s.finishWake := by
  simp [exec, execSelfRefreshExit, hop, hwaking]

end

theorem State.processorClaim_eq_false_iff {s : State} : s.processorClaim = false ↔ s.pbi.phase ≠ .waiting := by
  simp [State.processorClaim]

theorem State.enterParked_unclaimed {s : State} (h : s.pbi.phase ≠ .waiting) :
    s.enterParked =
      { s with mseq := { s.mseq with op := none, extension := 0 },
               rpc := { s.rpc with portState := .parked, parkStep := false, sref := true },
               iru := { s.iru with port := true } } :=
  if_neg (ne_true_of_eq_false (State.processorClaim_eq_false_iff.mpr h))

/-- The end of the park step and the automatic wake in one event (log 31): SREF asserted by the one and released by
the other. -/
theorem State.enterParked_claimed {s : State} (h : s.pbi.phase = .waiting) :
    s.enterParked =
      ({ s with rpc := { s.rpc with portState := .waking, parkStep := false, wakeCause := some .processor,
                                    sref := false },
                iru := { s.iru with port := true } }.startOp (.wakeUp (dynamicSelects s.rgd.regions))
        .selfRefreshExit) :=
  if_pos (by simp [State.processorClaim, h])

theorem State.finishWake_eq (s : State) :
    s.finishWake =
      { s with mseq := { s.mseq with op := none, extension := 0 },
               rpc := { s.rpc with portState := .running, wakeCause := none,
                                   timer := if s.rpc.rfint ≠ 0 ∧ anyDynamic s.rgd.regions = true then
                                       some (max 16 s.rpc.rfint.toNat) else none },
               iru := { s.iru with port := s.iru.port || decide (s.rpc.wakeCause = some .strobe) } } := by
  simp only [State.finishWake, timerStart_eq, true_or, and_true, Bool.beq_eq_decide_eq]
  rfl

/-- Settles O38: the end of the park step with or without a standing claim, and the end of a wake. -/
theorem selfRefreshOperationsMoveThePort : Obligations.SelfRefreshOperationsMoveThePort := by
  intro s left w
  refine ⟨fun hop hstep => ?enter, fun hop hwaking => ?exit, State.enterParked_unclaimed, State.enterParked_claimed⟩
  case enter =>
    rw [exec_selfRefreshEnter_due hop hstep]
    exact ⟨fun h => by rw [State.enterParked_unclaimed h], fun h => by rw [State.enterParked_claimed h]⟩
  case exit => rw [exec_selfRefreshExit_due hop hwaking, State.finishWake_eq]

/-! ### The park step (R85) -/

theorem exec_parkStep_due {s : State} (h : s.parkStepDue = true) : exec .parkStep s = .next s.beginParkStep := by
  simp [exec, execParkStep, h]

theorem exec_parkStep_not_due {s : State} (h : s.parkStepDue = false) : exec .parkStep s = .next s := by
  simp [exec, execParkStep, h]

/-- The park step in progress with the timer stopped, its first operation not yet begun (R77, R85). -/
def State.inParkStep (s : State) : State := { s with rpc := { s.rpc with parkStep := true, timer := none } }

theorem State.beginParkStep_dynamic {s : State} (hdyn : anyDynamic s.rgd.regions = true) :
    s.beginParkStep =
      s.inParkStep.startOp (.enter (dynamicSelects s.rgd.regions))
        (afterStale s.rgd.regions s.mseq.record .selfRefreshEnter) :=
  (if_pos hdyn).trans (State.beginWork_some rfl)

section
variable {s : State} (hdyn : anyDynamic s.rgd.regions = false)
include hdyn

theorem State.beginParkStep_close {k : OpKind} (hk : nextKind s.rgd.regions s.mseq.record .parkClose = some k) :
    s.beginParkStep = s.inParkStep.startOp .parkClose k := by
  simp only [State.beginParkStep, hdyn, hk, Bool.false_eq_true, if_false]
  rfl

theorem State.beginParkStep_parked (hk : nextKind s.rgd.regions s.mseq.record .parkClose = none) :
    s.beginParkStep = s.inParkStep.enterParked := by
  simp only [State.beginParkStep, hdyn, hk, Bool.false_eq_true, if_false]
  rfl

end

/-- Settles O37: when the step is due, and its first operation by the regions and the open row. -/
theorem parkStepLeadsToParked : Obligations.ParkStepLeadsToParked := by
  intro s
  refine ⟨?due, exec_parkStep_not_due, fun hdue hdyn => ⟨fun row p hrow hp => ?closeThenEnter, fun hfresh => ?enter⟩,
    fun hdue hdyn => ⟨fun row p hrow hp => ?closeAlone, fun hfresh => ?parked⟩⟩
  case due => rw [State.parkStepDue_iff, State.processorClaim_eq_false_iff]
  case closeThenEnter =>
    rw [exec_parkStep_due hdue, State.beginParkStep_dynamic hdyn, hrow, afterStale_stale hp]
    rfl
  case enter =>
    rw [exec_parkStep_due hdue, State.beginParkStep_dynamic hdyn, afterStale_fresh hfresh]
    rfl
  case closeAlone =>
    have hclose : nextKind s.rgd.regions s.mseq.record .parkClose = some (.rowClose row p) := by
      rw [hrow, nextKind_parkClose_stale hp]
    rw [exec_parkStep_due hdue, State.beginParkStep_close hdyn hclose]
    rfl
  case parked =>
    obtain ⟨_, _, _, _, hclaim⟩ := s.parkStepDue_iff.mp hdue
    have hphase : s.inParkStep.pbi.phase ≠ .waiting := State.processorClaim_eq_false_iff.mp hclaim
    rw [exec_parkStep_due hdue, State.beginParkStep_parked hdyn (nextKind_parkClose_fresh hfresh _),
      State.enterParked_unclaimed hphase]
    rfl

/-! ### PARK (R83) -/

theorem exec_park_quiet {s : State} (hs : s.busQuiet) (data : Byte) : exec (.park data) s = .next s.released.park :=
  congrArg Host.Outcome.next (State.windowCycle_quiet hs _)

/-- The state a taken PARK leaves when no park step can begin in the same event (R83). -/
def State.parkTaken (s : State) : State :=
  { s.setResult .ok with rpc := { s.rpc with portState := .draining } }

theorem State.park_running {s : State} (h : s.rpc.portState = .running) :
    s.park = if s.parkTaken.parkStepDue then s.parkTaken.beginParkStep else s.parkTaken := by
  simp only [State.park, h]
  rfl

theorem State.park_refused {s : State} (h : s.rpc.portState = .draining ∨ s.rpc.portState = .parked) :
    s.park = s.setResult .badState := by
  rcases h with h | h <;> simp only [State.park, h]

theorem State.park_waking {s : State} (h : s.rpc.portState = .waking) : s.park = s.setResult .busy := by
  simp only [State.park, h]

theorem State.parkStepDue_parkTaken_iff (s : State) :
    s.parkTaken.parkStepDue = true ↔
      s.rpc.parkStep = false ∧ s.parb.holder = .none ∧ s.rpc.debt = 0 ∧ s.pbi.phase ≠ .waiting := by
  rw [State.parkStepDue_iff, State.processorClaim_eq_false_iff]
  exact and_iff_right rfl

/-- Settles O36: a taken PARK by whether the park step is due behind it, a refused one by the port state. -/
theorem parkIsDecidedByThePortState : Obligations.ParkIsDecidedByThePortState := by
  intro data s hs
  rw [exec_park_quiet hs]
  refine ⟨fun hrun hstep hfree hdebt => ?begins, fun hrun hbusy => ?waits, fun hp => ?refused, fun hp => ?waking⟩
  case begins =>
    obtain ⟨hidle, _⟩ := hs
    have hdue : s.released.parkTaken.parkStepDue = true :=
      s.released.parkStepDue_parkTaken_iff.mpr ⟨hstep, hfree, hdebt, by simp [hidle]⟩
    rw [State.park_running (s := s.released) hrun, if_pos hdue]
    exact ⟨rfl, exec_parkStep_due hdue⟩
  case waits =>
    have hnot : ¬s.released.parkTaken.parkStepDue = true := by
      rw [State.parkStepDue_parkTaken_iff]
      rintro ⟨_, hfree, (hdebt : s.rpc.debt = 0), _⟩
      rcases hbusy with hheld | howed
      · exact hheld hfree
      · omega
    rw [State.park_running (s := s.released) hrun, if_neg hnot]
    rfl
  case refused => rw [State.park_refused (s := s.released) hp]
  case waking => rw [State.park_waking (s := s.released) hp]

/-! ### WAKE (R87) -/

theorem exec_wake_quiet {s : State} (hs : s.busQuiet) (data : Byte) : exec (.wake data) s = .next s.released.wake :=
  congrArg Host.Outcome.next (State.windowCycle_quiet hs _)

theorem State.wake_parked {s : State} (h : s.rpc.portState = .parked) :
    s.wake = (s.setResult .ok).startWake .strobe := by
  simp only [State.wake, h]

theorem State.wake_draining {s : State} (h : s.rpc.portState = .draining) : s.wake = s.setResult .busy := by
  simp only [State.wake, h]

theorem State.wake_refused {s : State} (h : s.rpc.portState = .running ∨ s.rpc.portState = .waking) :
    s.wake = s.setResult .badState := by
  rcases h with h | h <;> simp only [State.wake, h]

theorem State.finishWake_port_of_processor {s : State} (h : s.rpc.wakeCause = some .processor) :
    s.finishWake.iru.port = s.iru.port := by
  simp [State.finishWake_eq, h]

/-- SELF_REFRESH_EXIT sets PORT for no wake that the processor began (R88). -/
theorem exec_selfRefreshExit_port_of_processor {s u : State} (hcause : s.rpc.wakeCause = some .processor)
    (hu : exec .selfRefreshExit s = .next u) : u.iru.port = s.iru.port := by
  change execSelfRefreshExit s = _ at hu
  unfold execSelfRefreshExit at hu
  repeat' split at hu
  case isTrue =>
    cases hu
    exact State.finishWake_port_of_processor hcause
  all_goals
    cases hu
    rfl

/-- Settles O39: the port state decides, and a refused WAKE leaves the wake cause as it stands. -/
theorem wakeIsDecidedByThePortState : Obligations.WakeIsDecidedByThePortState := by
  intro data s hs
  rw [exec_wake_quiet hs]
  refine ⟨fun hp => ?parked, fun hp => ?draining, fun hp => ?refused, fun hp hcause t u ht hu => ?automatic⟩
  case parked =>
    rw [State.wake_parked (s := s.released) hp]
    rfl
  case draining => rw [State.wake_draining (s := s.released) hp]
  case refused => rw [State.wake_refused (s := s.released) hp]
  case automatic =>
    rw [State.wake_refused (s := s.released) (.inr hp)] at ht
    cases ht
    exact exec_selfRefreshExit_port_of_processor (s := s.released.setResult .badState) hcause hu

end Sys2Proof.Machine
end

section
/-! Descriptors and the channel queues (chapter 7): the capacities, the arithmetic of the head, ENQ and the record it
takes, the configuration of a channel, and the events that act on what is left. -/
namespace Sys2Proof.Machine

/-! ### The capacities of the queues (R98) -/

/-- Settles O6: what every step keeps by `step_keeps`, of which the capacities are the first part. -/
theorem stepKeepsCapacities : Obligations.StepKeepsCapacities :=
  fun _ _ hs ht => (step_keeps ht).capacity hs

/-! ### The arithmetic of the head (R101) -/

section
variable {step : AddrStep}

theorem AddrStep.toNat_apply_inc (h : step = .inc) (a : PhysAddr) :
    (step.apply a).toNat = (a.toNat + 1) % 0x1000000 := by
  rw [h, AddrStep.apply]
  exact BitVec.toNat_add a 1

theorem AddrStep.toNat_apply_dec (h : step = .dec) (a : PhysAddr) :
    (step.apply a).toNat = (a.toNat + 0xFFFFFF) % 0x1000000 := by
  rw [h, AddrStep.apply, BitVec.toNat_sub]
  exact congrArg (· % 0x1000000) (Nat.add_comm _ _)

theorem AddrStep.apply_fix (h : step = .fix) (a : PhysAddr) : step.apply a = a := by
  rw [h, AddrStep.apply]

end

theorem Descriptor.advance_remaining_toNat {d : Descriptor} (h : d.remaining ≠ 0) :
    d.advance.remaining.toNat + 1 = d.remaining.toNat := by
  rw [Descriptor.advance]
  bv_omega

/-- Settles O51: each address by the step it takes, remaining by its own decrement. -/
theorem headAdvancesByItsSteps : Obligations.HeadAdvancesByItsSteps := fun d =>
  ⟨fun h => AddrStep.toNat_apply_inc h d.curSrc, fun h => AddrStep.toNat_apply_dec h d.curSrc,
    fun h => AddrStep.apply_fix h d.curSrc, fun h => AddrStep.toNat_apply_inc h d.curDst,
    fun h => AddrStep.toNat_apply_dec h d.curDst, fun h => AddrStep.apply_fix h d.curDst,
    Descriptor.advance_remaining_toNat, rfl⟩

/-! ### The staged record (R94) -/

/-- The step codes of DMODE (R94). -/
def AddrStep.code : AddrStep → BitVec 2
  | .inc => 0
  | .dec => 1
  | .fix => 2

theorem addrStepOf_eq_some_iff {c : BitVec 2} {step : AddrStep} : addrStepOf c = some step ↔ step.code = c := by
  revert c
  cases step <;> decide

theorem addrStepOf_eq_none_iff {c : BitVec 2} : addrStepOf c = none ↔ c.toNat = 3 := by
  revert c
  decide

theorem AddrStep.code_eq_zero_iff {step : AddrStep} : step.code.toNat = 0 ↔ step = .inc := by
  cases step <;> decide

theorem AddrStep.code_eq_one_iff {step : AddrStep} : step.code.toNat = 1 ↔ step = .dec := by
  cases step <;> decide

/-- A staged record spells a descriptor: the layout of DMODE and the plain fields (R94, 11.8). -/
structure DescStaging.Spells (g : DescStaging) (d : Descriptor) : Prop where
  curSrc : d.curSrc = g.dsrc
  curDst : d.curDst = g.ddst
  remaining : d.remaining = g.dcnt
  tag : d.tag = g.dtag
  srcStep : d.srcStep.code = g.dmode.extractLsb' 0 2
  dstStep : d.dstStep.code = g.dmode.extractLsb' 2 2
  pacing : d.pacing = .paced ↔ g.dmode.getLsbD 4 = true
  notify : d.notify = g.dmode.getLsbD 5
  stopAfter : d.stopAfter = g.dmode.getLsbD 6
  endSignal : d.endSignal = g.dmode.getLsbD 7

theorem DescStaging.descriptor_spells {g : DescStaging} {d : Descriptor} (h : g.descriptor = some d) : g.Spells d := by
  unfold DescStaging.descriptor at h
  split at h
  next src dst hsrc hdst =>
    obtain ⟨_, hd⟩ := Option.ite_none_left_eq_some.mp h
    cases hd
    exact ⟨rfl, rfl, rfl, rfl, addrStepOf_eq_some_iff.mp hsrc, addrStepOf_eq_some_iff.mp hdst, by simp, rfl, rfl, rfl⟩
  next => cases h

theorem DescStaging.descriptor_eq_none_iff {g : DescStaging} :
    g.descriptor = none ↔
      g.dcnt = 0 ∨ (g.dmode.extractLsb' 0 2).toNat = 3 ∨ (g.dmode.extractLsb' 2 2).toNat = 3 := by
  rw [← addrStepOf_eq_none_iff, ← addrStepOf_eq_none_iff]
  unfold DescStaging.descriptor
  split
  next hsrc hdst => simp [hsrc, hdst]
  next hnone =>
    refine iff_of_true rfl (.inr ?_)
    by_contra hboth
    obtain ⟨hsrc, hdst⟩ := not_or.mp hboth
    obtain ⟨src, hsrc⟩ := Option.ne_none_iff_exists'.mp hsrc
    obtain ⟨dst, hdst⟩ := Option.ne_none_iff_exists'.mp hdst
    exact hnone src dst hsrc hdst

/-! ### ENQ (R95, R96) -/

theorem exec_enq_quiet {s : State} (hs : s.busQuiet) (data : Byte) : exec (.enq data) s = .next (s.released.enq data) :=
  congrArg Host.Outcome.next (State.windowCycle_quiet hs _)

theorem State.channelStrobe_badIndex {data : Byte} (h : 4 ≤ data.toNat) (s : State) (f : State → Fin 4 → State) :
    s.channelStrobe data f = s.setResult .badIndex := by
  simp only [State.channelStrobe, index4_none h]

theorem State.channelStrobe_index {data : Byte} {n : Fin 4} (hn : data.toNat = n.val) (s : State)
    (f : State → Fin 4 → State) : s.channelStrobe data f = f s n := by
  simp only [State.channelStrobe, index4_of_val hn]

theorem State.enqOn_badRecord {s : State} (h : s.txe.staging.descriptor = none) (n : Fin 4) :
    s.enqOn n = s.setResult .badRecord := by
  simp only [State.enqOn, h]

section
variable {s : State} {n : Fin 4} {d : Descriptor} (hd : s.txe.staging.descriptor = some d)
include hd

theorem State.enqOn_full (hfull : 8 ≤ (s.chan n).queue.length) : s.enqOn n = s.setResult .full := by
  simp only [State.enqOn, hd, if_pos hfull]

theorem State.enqOn_ready (hroom : (s.chan n).queue.length < 8) (hstate : (s.chan n).state = .ready) :
    s.enqOn n =
      ((s.setResult .ok).setChan n { s.chan n with queue := (s.chan n).queue ++ [d], state := .busy }).checkUnit n := by
  simp only [State.enqOn, hd, if_neg (Nat.not_le.mpr hroom), if_pos hstate]

theorem State.enqOn_other (hroom : (s.chan n).queue.length < 8) (hstate : (s.chan n).state ≠ .ready) :
    s.enqOn n = (s.setResult .ok).setChan n { s.chan n with queue := (s.chan n).queue ++ [d] } := by
  simp only [State.enqOn, hd, if_neg (Nat.not_le.mpr hroom), if_neg hstate]

end

/-- Settles O40: the checks of ENQ in their order, then the tail; the staged record by its layout. -/
theorem enqChecksThenJoinsTheTail : Obligations.EnqChecksThenJoinsTheTail := by
  refine ⟨fun data s hs => ?enq, fun g => ⟨DescStaging.descriptor_eq_none_iff, fun d hd => ?layout⟩⟩
  case enq =>
    rw [exec_enq_quiet hs, State.enq]
    refine ⟨fun h => by rw [State.channelStrobe_badIndex h], fun n hn => ?_⟩
    rw [State.channelStrobe_index hn]
    refine ⟨fun hnone => ?badRecord, fun d hd => ⟨fun hfull => ?full, fun hroom hstate => ?joins,
      fun hroom hstate => ?goesBusy⟩⟩
    case badRecord => rw [State.enqOn_badRecord (s := s.released) hnone]
    case full => rw [State.enqOn_full (s := s.released) hd hfull]
    case joins =>
      rw [State.enqOn_other (s := s.released) hd hroom hstate]
      rfl
    case goesBusy =>
      rw [State.enqOn_ready (s := s.released) hd hroom hstate]
      rfl
  case layout =>
    have h := DescStaging.descriptor_spells hd
    rw [← h.srcStep, ← h.dstStep]
    exact ⟨h.curSrc, h.curDst, h.remaining, h.tag, h.pacing, h.notify, h.stopAfter, h.endSignal,
      AddrStep.code_eq_zero_iff, AddrStep.code_eq_one_iff, AddrStep.code_eq_zero_iff, AddrStep.code_eq_one_iff⟩

/-! ### The configuration of a channel (R103, R104) -/

theorem exec_chcfgWrite_quiet {s : State} (hs : s.busQuiet) (data : Byte) :
    exec (.chcfgWrite data) s = .next (s.released.writeChcfg data) :=
  congrArg Host.Outcome.next (State.windowCycle_quiet hs _)

theorem byte_lowFive_toNat (data : Byte) : (data.extractLsb' 0 5).toNat = data.toNat % 32 :=
  BitVec.extractLsb'_toNat 0 5 data

theorem chcfgOf_ignored {data : Byte} (h : data.toNat % 32 = 0 ∨ 16 < data.toNat % 32) : chcfgOf data = none := by
  simp only [chcfgOf, byte_lowFive_toNat]
  exact if_neg (by omega)

theorem chcfgOf_taken {data : Byte} (hlow : 1 ≤ data.toNat % 32) (hhigh : data.toNat % 32 ≤ 16) :
    chcfgOf data =
      some { sense := if data.getLsbD 7 then .level else .edge, burst := data.toNat % 32 } := by
  simp only [chcfgOf, byte_lowFive_toNat]
  exact if_pos ⟨hlow, hhigh⟩

theorem State.writeChcfg_ignored {data : Byte} (h : chcfgOf data = none) (s : State) : s.writeChcfg data = s := by
  simp only [State.writeChcfg, h]

/-- The check of R108 does nothing for a channel that claims or holds the grant. -/
theorem State.checkUnit_of_request {s : State} {n : Fin 4} (h : (s.chan n).port ≠ .none) : s.checkUnit n = s := by
  rcases s.checkUnit_cases n with he | ⟨_, _, _, _, hfree, _⟩ | ⟨_, _, _, _, hfree, _⟩
  · exact he
  · exact absurd hfree h
  · exact absurd hfree h

section
variable {s : State} {data : Byte} {cfg : ChanConfig} (hcfg : chcfgOf data = some cfg)
include hcfg

theorem State.writeChcfg_taken :
    s.writeChcfg data =
      (s.setChan s.win.chsel (Channel.adopt { s.chan s.win.chsel with stored := cfg })).checkUnit s.win.chsel := by
  simp only [State.writeChcfg, hcfg]

/-- Behind a claim or a grant the new configuration waits (R104). -/
theorem State.writeChcfg_deferred (h : (s.chan s.win.chsel).port ≠ .none) :
    s.writeChcfg data = s.setChan s.win.chsel { s.chan s.win.chsel with stored := cfg } := by
  have hadopt : Channel.adopt { s.chan s.win.chsel with stored := cfg } = { s.chan s.win.chsel with stored := cfg } :=
    if_neg h
  rw [State.writeChcfg_taken hcfg, hadopt]
  exact State.checkUnit_of_request (by simpa using h)

theorem State.writeChcfg_atOnce (h : (s.chan s.win.chsel).port = .none) :
    s.writeChcfg data =
      (s.setChan s.win.chsel
        { s.chan s.win.chsel with
          stored := cfg, inUse := cfg,
          latch := (s.chan s.win.chsel).latch && ((s.chan s.win.chsel).inUse.sense == cfg.sense) }).checkUnit
        s.win.chsel := by
  rw [State.writeChcfg_taken hcfg, Channel.adopt_of_free (by exact h)]

end

theorem State.readRegister_chcfg (s : State) : s.readRegister 0x1D = (s.chan s.win.chsel).stored.byte := by rfl

/-- CHCFG: the sense in bit 7, the burst limit in bits 0 to 4 (11.8). -/
theorem ChanConfig.byte_toNat {c : ChanConfig} (h : c.burst ≤ 16) :
    c.byte.toNat = (if c.sense = .level then 128 else 0) + c.burst := by
  have hburst : c.burst < 32 := by omega
  unfold ChanConfig.byte
  rw [BitVec.toNat_append, ← Nat.shiftLeft_add_eq_or_of_lt (BitVec.isLt _), BitVec.toNat_append]
  cases hs : c.sense <;> simp [Nat.shiftLeft_eq, Nat.mod_eq_of_lt hburst]

/-- Settles O47: the write by whether the byte is valid and whether the channel claims or holds the grant, the read by
its two fields. -/
theorem chcfgWriteReachesTheSelectedChannel : Obligations.ChcfgWriteReachesTheSelectedChannel := by
  refine ⟨fun data s hs => ?write, fun u h => ?read⟩
  case write =>
    rw [exec_chcfgWrite_quiet hs]
    refine ⟨fun hout => ?ignored, fun hlow hhigh hport => ?deferred, fun hlow hhigh hport => ?atOnce⟩
    case ignored => rw [State.writeChcfg_ignored (chcfgOf_ignored hout)]
    case deferred =>
      rw [State.writeChcfg_deferred (s := s.released) (chcfgOf_taken hlow hhigh) hport]
      rfl
    case atOnce =>
      rw [State.writeChcfg_atOnce (s := s.released) (chcfgOf_taken hlow hhigh) hport]
      rfl
  case read => rw [State.readRegister_chcfg, ChanConfig.byte_toNat h]

/-! ### CONFIGURATION_IN_USE (R104; log 24) -/

section
variable {s : State} {n : Fin 4}

theorem exec_configurationInUse_notDue (h : (s.chan n).port ≠ .none ∨ (s.chan n).inUse = (s.chan n).stored) :
    exec (.configurationInUse n) s = .next s :=
  if_neg fun ⟨hfree, hdeferred⟩ => h.elim (absurd hfree) hdeferred

theorem exec_configurationInUse_due (hfree : (s.chan n).port = .none)
    (hdeferred : (s.chan n).inUse ≠ (s.chan n).stored) :
    exec (.configurationInUse n) s = .next ((s.setChan n (s.chan n).adopt).checkUnit n) :=
  if_pos ⟨hfree, hdeferred⟩

/-! ### PENDING_FLAGS_ACTED (R125; log 24) -/

theorem exec_pendingFlagsActed_notDue (h : (s.chan n).state ≠ .busy ∨ (s.chan n).port ≠ .none) :
    exec (.pendingFlagsActed n) s = .next s :=
  if_neg fun ⟨hbusy, hfree⟩ => h.elim (absurd hbusy) (absurd hfree)

theorem exec_pendingFlagsActed_due (hbusy : (s.chan n).state = .busy) (hfree : (s.chan n).port = .none) :
    exec (.pendingFlagsActed n) s = .next (s.actPending n) :=
  if_pos ⟨hbusy, hfree⟩

theorem State.actPending_of_clear (hflush : (s.chan n).flushPending = false)
    (hhold : (s.chan n).holdPending = false) : s.actPending n = s := by
  simp [State.actPending, hflush, hhold]

theorem exec_pendingFlagsActed_clear (hflush : (s.chan n).flushPending = false)
    (hhold : (s.chan n).holdPending = false) : exec (.pendingFlagsActed n) s = .next s := by
  by_cases hdue : (s.chan n).state = .busy ∧ (s.chan n).port = .none
  · rw [exec_pendingFlagsActed_due hdue.1 hdue.2, State.actPending_of_clear hflush hhold]
  · exact exec_pendingFlagsActed_notDue (not_and_or.mp hdue)

/-! ### COMPLETION_RECORD_TAKEN (R133, R134; log 24) -/

theorem State.waitingChannel_eq_none (h : ∀ m, (s.chan m).state ≠ .posting) : s.waitingChannel = none :=
  List.find?_eq_none.mpr fun m _ => by simpa using h m

theorem State.waitingChannel_lowest (hn : (s.chan n).state = .posting) (hlow : ∀ m < n, (s.chan m).state ≠ .posting) :
    s.waitingChannel = some n := by
  cases hw : s.waitingChannel with
  | none => exact absurd hn (State.waitingChannel_none hw n)
  | some k =>
    rcases lt_trichotomy k n with hlt | rfl | hgt
    · exact absurd (State.waitingChannel_posting hw) (hlow k hlt)
    · rfl
    · have hmiss := find?_least_rank (rank := Fin.val) (by decide) hw (mem_allFour n) hgt
      simp [hn] at hmiss

theorem State.takeWaiting_none (h : ∀ m, (s.chan m).state ≠ .posting) : s.takeWaiting = s := by
  simp only [State.takeWaiting, State.waitingChannel_eq_none h]

theorem State.takeWaiting_full (h : 16 ≤ s.clog.records.length) : s.takeWaiting = s := by
  unfold State.takeWaiting
  split
  next => exact if_neg (Nat.not_lt.mpr h)
  next => rfl

theorem State.takeWaiting_lowest (hn : (s.chan n).state = .posting) (hlow : ∀ m < n, (s.chan m).state ≠ .posting)
    (hroom : s.clog.records.length < 16) : s.takeWaiting = s.takeRecord n := by
  simp only [State.takeWaiting, State.waitingChannel_lowest hn hlow, State.offerRecord, if_pos hroom]

theorem exec_completionRecordTaken : exec .completionRecordTaken s = .next s.takeWaiting := by rfl

end

/-- Settles O48: each of the three rows by whether something is left for it, and then by what is left. -/
theorem deferredEventsActOnWhatIsLeft : Obligations.DeferredEventsActOnWhatIsLeft := by
  intro n s
  refine ⟨exec_configurationInUse_notDue, fun hfree hdeferred => ?configuration, fun hnone => ?noFlags,
    fun hbusy hfree hflush => ?flush, fun d rest hbusy hfree hflush hhold hq hleft => ?hold, fun hnone => ?noRecord,
    fun hn hlow hroom => ?record⟩
  case configuration => rw [exec_configurationInUse_due hfree hdeferred, Channel.adopt_of_free hfree]
  case noFlags =>
    rcases hnone with hbusy | hport | ⟨hflush, hhold⟩
    · exact exec_pendingFlagsActed_notDue (.inl hbusy)
    · exact exec_pendingFlagsActed_notDue (.inr hport)
    · exact exec_pendingFlagsActed_clear hflush hhold
  case flush =>
    rw [exec_pendingFlagsActed_due hbusy hfree, State.actPending_of_flush hflush]
    rfl
  case hold => rw [exec_pendingFlagsActed_due hbusy hfree, State.actPending_of_hold hflush hhold hq, if_neg hleft]
  case noRecord =>
    rw [exec_completionRecordTaken]
    rcases hnone with hnone | hfull
    · rw [State.takeWaiting_none hnone]
    · rw [State.takeWaiting_full hfull]
  case record => rw [exec_completionRecordTaken, State.takeWaiting_lowest hn hlow hroom]

end Sys2Proof.Machine
end

section
/-! The unit check and the record taken (chapter 8): what R108 asks for, what R109 and R119 leave, and the channels in
order after every step. -/
namespace Sys2Proof.Machine

/-! ### The channels in order (R106, R107) -/

/-- Settles O8: what every step keeps by `step_keeps`, of which the channels in order are the last part. -/
theorem stepKeepsChannelsInOrder : Obligations.StepKeepsChannelsInOrder :=
  fun _ _ hs ht => (step_keeps ht).channels hs

/-! ### The unit check (R108, R109) -/

theorem Channel.pacingHolds_iff {c : Channel} {d : Descriptor} :
    c.pacingHolds d = true ↔
      d.pacing = .free ∨ (c.inUse.sense = .edge ∧ c.latch = true) ∨ (c.inUse.sense = .level ∧ c.trq = true) := by
  unfold Channel.pacingHolds
  cases d.pacing <;> cases c.inUse.sense <;> simp

theorem Channel.pacingHolds_eq_false_iff {c : Channel} {d : Descriptor} :
    c.pacingHolds d = false ↔
      (d.pacing = .paced ∧ c.inUse.sense = .edge ∧ c.latch = false) ∨
        (d.pacing = .paced ∧ c.inUse.sense = .level ∧ c.trq = false) := by
  unfold Channel.pacingHolds
  cases d.pacing <;> cases c.inUse.sense <;> simp

theorem Channel.burstCarried_eq (c : Channel) (d : Descriptor) :
    c.burstCarried d = if d.pacing = .free then some c.inUse.burst else none := by
  unfold Channel.burstCarried
  cases d.pacing <;> rfl

theorem State.checkUnit_of_state {s : State} {n : Fin 4} (h : (s.chan n).state ≠ .busy) : s.checkUnit n = s := by
  rcases s.checkUnit_cases n with he | ⟨_, _, _, hbusy, _⟩ | ⟨_, _, _, hbusy, _⟩
  · exact he
  · exact absurd hbusy h
  · exact absurd hbusy h

section
variable {t : Quad RegionEntry} {src dst : PhysAddr} {m k : Fin 4}

/-- The source is judged first, as a read (R21). -/
theorem unitVerdict_srcUnmapped (hsrc : regionOf t src = none) (dst : PhysAddr) :
    unitVerdict t src dst = .fail .unmapped .read src := by
  simp only [unitVerdict, regionVerdict_unmapped hsrc]

theorem unitVerdict_dstUnmapped (hsrc : regionOf t src = some m) (hdst : regionOf t dst = none) :
    unitVerdict t src dst = .fail .unmapped .write dst := by
  simp only [unitVerdict, regionVerdict_region_iff.mpr ⟨hsrc, .inl rfl⟩, regionVerdict_unmapped hdst]

theorem unitVerdict_dstProtect (hsrc : regionOf t src = some m) (hdst : regionOf t dst = some k)
    (hprotect : (t.get k).writeProtect = true) : unitVerdict t src dst = .fail .protect .write dst := by
  simp only [unitVerdict, regionVerdict_region_iff.mpr ⟨hsrc, .inl rfl⟩, regionVerdict_protect hdst rfl hprotect]

end

section
variable {s : State} {n : Fin 4} {d : Descriptor} {rest : List Descriptor} (hq : (s.chan n).queue = d :: rest)
include hq

/-- A head whose pacing condition is not met is not checked. -/
theorem State.checkUnit_waits (h : (s.chan n).pacingHolds d = false) : s.checkUnit n = s := by
  rw [State.checkUnit_cons hq, if_neg (by simp [h])]

/-- R109: the report with the tag of the head, and the channel released and FAULTED. -/
theorem State.failUnit_cons (kind : FaultKind) (dir : FaultDir) (addr : PhysAddr) :
    s.failUnit n kind dir addr =
      (s.fileFault { source := .channel n, kind := kind, dir := dir, logical := none, physical := some addr,
                     tag := some d.tag }).setChan n { (s.chan n).release with state := .faulted } := by
  simp only [State.failUnit, Channel.headTag, hq, List.head?_cons, Option.map_some]

variable (hbusy : (s.chan n).state = .busy) (hfree : (s.chan n).port = .none)
  (hpacing : (s.chan n).pacingHolds d = true)
include hbusy hfree hpacing

theorem State.checkUnit_pass {m k : Fin 4} (hv : unitVerdict s.rgd.regions d.curSrc d.curDst = .pass m k) :
    s.checkUnit n = s.setChan n { s.chan n with port := .claim ((s.chan n).burstCarried d) } := by
  rw [State.checkUnit_cons hq, if_pos ⟨hbusy, hfree, hpacing⟩, hv]

theorem State.checkUnit_fail {kind : FaultKind} {dir : FaultDir} {addr : PhysAddr}
    (hv : unitVerdict s.rgd.regions d.curSrc d.curDst = .fail kind dir addr) :
    s.checkUnit n = s.failUnit n kind dir addr := by
  rw [State.checkUnit_cons hq, if_pos ⟨hbusy, hfree, hpacing⟩, hv]

end

/-! ### The Fault Log (R143) -/

theorem State.fileFault_room {s : State} (h : s.flog.records.length < 4) (r : FaultRecord) :
    s.fileFault r = { s with flog := { s.flog with records := s.flog.records ++ [r] } } :=
  if_pos h

theorem State.fileFault_full {s : State} (h : 4 ≤ s.flog.records.length) (r : FaultRecord) :
    s.fileFault r = { s with flog := { s.flog with overflow := true } } :=
  if_neg (Nat.not_lt.mpr h)

/-- Settles O41: the check by whether it is due, and then by the verdict on the unit. -/
theorem unitCheckClaimsOrFaults : Obligations.UnitCheckClaimsOrFaults := by
  refine ⟨fun s n d rest hq => ⟨fun hnot => ?notDue, fun hbusy hfree hdue => ?due⟩,
    fun _ _ _ _ _ => unitVerdict_pass_iff,
    fun s report => ⟨fun h => State.fileFault_room h report, fun h => State.fileFault_full h report⟩,
    fun s n m c => ⟨rfl, s.chan_setChan n m c⟩⟩
  case notDue =>
    rcases hnot with hstate | hport | hpacing
    · exact State.checkUnit_of_state hstate
    · exact State.checkUnit_of_request hport
    · exact State.checkUnit_waits hq (Channel.pacingHolds_eq_false_iff.mpr hpacing)
  case due =>
    have hpacing := Channel.pacingHolds_iff.mpr hdue
    have hfails {kind : FaultKind} {dir : FaultDir} {addr : PhysAddr}
        (hv : unitVerdict s.rgd.regions d.curSrc d.curDst = .fail kind dir addr) :=
      (State.checkUnit_fail hq hbusy hfree hpacing hv).trans (State.failUnit_cons hq kind dir addr)
    refine ⟨fun hsrc => hfails (unitVerdict_srcUnmapped hsrc d.curDst),
      fun m hsrc => ⟨fun hdst => hfails (unitVerdict_dstUnmapped hsrc hdst),
        fun k hdst => ⟨fun hprotect => hfails (unitVerdict_dstProtect hsrc hdst hprotect), fun hopen => ?passes⟩⟩⟩
    case passes =>
      rw [State.checkUnit_pass hq hbusy hfree hpacing (unitVerdict_pass_iff.mpr ⟨hsrc, hdst, hopen⟩),
        Channel.burstCarried_eq]

/-! ### The record taken (R119, R131) -/

section
variable {c : Channel} {d : Descriptor} {rest : List Descriptor} (hq : c.queue = d :: rest) {o : Offer}
include hq

theorem Channel.posted_stops (h : o.status = .aborted ∨ d.stopAfter = true ∨ c.holdPending = true) :
    c.posted o = { c with queue := rest, offer := none, state := .held, holdPending := false } := by
  simp only [Channel.posted, hq, List.tail_cons, if_pos h]

theorem Channel.posted_goesOn (h : ¬ (o.status = .aborted ∨ d.stopAfter = true ∨ c.holdPending = true)) :
    c.posted o = { c with queue := rest, offer := none, state := if rest = [] then .ready else .busy } := by
  simp only [Channel.posted, hq, List.tail_cons, if_neg h]
  split <;> rfl

end

/-- The Completion Log with the record channel n offers at its tail (R131). -/
def State.logged (s : State) (n : Fin 4) (o : Offer) : State :=
  { s with clog :=
    { records := s.clog.records ++ [{ seq := s.clog.nextSeq, channel := n, status := o.status, tag := o.tag,
                                      remaining := o.remaining, notify := o.notify }],
      nextSeq := s.clog.nextSeq + 1 } }

theorem State.takeRecord_logged {s : State} {n : Fin 4} {o : Offer} (h : (s.chan n).offer = some o) :
    s.takeRecord n = ((s.logged n o).setChan n ((s.chan n).posted o)).checkUnit n :=
  State.takeRecord_some h

/-- A record taken from a channel that it does not leave BUSY calls for no check. -/
theorem State.takeRecord_rests {s : State} {n : Fin 4} {o : Offer} (h : (s.chan n).offer = some o)
    (hstate : ((s.chan n).posted o).state ≠ .busy) :
    s.takeRecord n = (s.logged n o).setChan n ((s.chan n).posted o) := by
  rw [State.takeRecord_logged h]
  exact State.checkUnit_of_state (by simpa using hstate)

/-- Settles O53: the channel after the record stops, has nothing left, or goes on with its next head. -/
theorem takenRecordIsNumberedAndPosted : Obligations.TakenRecordIsNumberedAndPosted := by
  intro s n o d rest ho hq
  refine ⟨fun hstop => ?stops, fun hgo hnil => ?empties, fun hgo hcons => ?goesOn⟩
  case stops =>
    have hposted := Channel.posted_stops hq hstop
    rw [State.takeRecord_rests ho (by rw [hposted]; nofun), hposted]
    rfl
  case empties =>
    have hposted := Channel.posted_goesOn hq hgo
    rw [if_pos hnil, hnil] at hposted
    rw [State.takeRecord_rests ho (by rw [hposted]; nofun), hposted]
    rfl
  case goesOn =>
    rw [State.takeRecord_logged ho, Channel.posted_goesOn hq hgo, if_neg hcons]
    rfl

end Sys2Proof.Machine
end

section
/-! The strobes of a channel (8.5): START, HOLD, RESUME, SKIP and FLUSH, on a quiet bus, by the state of the channel. -/
namespace Sys2Proof.Machine

/-! ### A strobe on a quiet bus -/

section
variable {s : State} (hs : s.busQuiet) {data : Byte} (f : State → Fin 4 → State)
include hs

theorem State.windowCycle_strobe_badIndex (h : 4 ≤ data.toNat) :
    s.windowCycle (fun t => t.channelStrobe data f) = s.released.setResult .badIndex := by
  rw [State.windowCycle_quiet hs, State.channelStrobe_badIndex h]

theorem State.windowCycle_strobe_index {n : Fin 4} (hn : data.toNat = n.val) :
    s.windowCycle (fun t => t.channelStrobe data f) = f s.released n := by
  rw [State.windowCycle_quiet hs, State.channelStrobe_index hn]

end

/-! ### START (R120) -/

section
variable {s : State} {n : Fin 4}

theorem State.startOn_refused (h : (s.chan n).state ≠ .off) : s.startOn n = s.setResult .badState := by
  simp only [State.startOn, if_neg h]

theorem State.startOn_empty (h : (s.chan n).state = .off) (hq : (s.chan n).queue = []) :
    s.startOn n = (s.setResult .ok).setChan n { s.chan n with state := .ready } := by
  simp only [State.startOn, if_pos h, if_pos hq]

theorem State.startOn_queued (h : (s.chan n).state = .off) (hq : (s.chan n).queue ≠ []) :
    s.startOn n = ((s.setResult .ok).setChan n { s.chan n with state := .busy }).checkUnit n := by
  simp only [State.startOn, if_pos h, if_neg hq]

end

/-- Settles O42: START by the state of the channel, and in OFF by its queue. -/
theorem startTakesAChannelOutOfOff : Obligations.StartTakesAChannelOutOfOff := by
  intro data s hs
  refine ⟨fun h => congrArg _ (State.windowCycle_strobe_badIndex hs _ h), fun n hn => ?_⟩
  have hstart : exec (.start data) s = .next (s.released.startOn n) :=
    congrArg _ (State.windowCycle_strobe_index hs _ hn)
  rw [hstart]
  exact ⟨fun h => congrArg _ (State.startOn_refused (s := s.released) h),
    fun h hq => congrArg _ (State.startOn_empty (s := s.released) h hq),
    fun h hq => congrArg _ (State.startOn_queued (s := s.released) h hq)⟩

/-! ### HOLD (R121) -/

section
variable {s : State} {n : Fin 4}

theorem State.holdOn_ready (h : (s.chan n).state = .ready) :
    s.holdOn n = (s.setResult .ok).setChan n { s.chan n with state := .held } := by
  simp only [State.holdOn, h]

theorem State.holdOn_busy (h : (s.chan n).state = .busy) (hg : (s.chan n).granted = false) :
    s.holdOn n = (s.setResult .ok).setChan n { (s.chan n).release with state := .held } := by
  simp [State.holdOn, h, hg]

theorem State.holdOn_pending
    (h : (s.chan n).state = .busy ∧ (s.chan n).granted = true ∨ (s.chan n).state = .posting) :
    s.holdOn n = (s.setResult .ok).setChan n { s.chan n with holdPending := true } := by
  rcases h with ⟨hbusy, hg⟩ | hposting
  · simp only [State.holdOn, hbusy, if_pos hg]
  · simp only [State.holdOn, hposting]

theorem State.holdOn_refused
    (h : (s.chan n).state = .off ∨ (s.chan n).state = .held ∨ (s.chan n).state = .faulted) :
    s.holdOn n = s.setResult .badState := by
  rcases h with h | h | h <;> simp only [State.holdOn, h]

end

/-- Settles O43: HOLD by the state of the channel, and in BUSY by its grant. -/
theorem holdStopsAChannel : Obligations.HoldStopsAChannel := by
  intro data s hs
  refine ⟨fun h => congrArg _ (State.windowCycle_strobe_badIndex hs _ h), fun n hn => ?_⟩
  have hhold : exec (.hold data) s = .next (s.released.holdOn n) :=
    congrArg _ (State.windowCycle_strobe_index hs _ hn)
  rw [hhold]
  exact ⟨fun h => congrArg _ (State.holdOn_ready (s := s.released) h),
    fun h hg => congrArg _ (State.holdOn_busy (s := s.released) h hg),
    fun h => congrArg _ (State.holdOn_pending (s := s.released) h),
    fun h => congrArg _ (State.holdOn_refused (s := s.released) h)⟩

/-! ### RESUME (R122) -/

theorem Channel.retryLatch_cons {c : Channel} {d : Descriptor} {rest : List Descriptor} (hq : c.queue = d :: rest) :
    c.retryLatch = (c.latch || (d.pacing == .paced && c.inUse.sense == .edge)) := by
  cases hpacing : d.pacing <;> cases hsense : c.inUse.sense <;> simp [Channel.retryLatch, hq, hpacing, hsense]

section
variable {s : State} {n : Fin 4}

theorem State.resumeOn_empty (h : (s.chan n).state = .held) (hq : (s.chan n).queue = []) :
    s.resumeOn n = (s.setResult .ok).setChan n { s.chan n with state := .ready, overrun := false } := by
  simp only [State.resumeOn, h, if_pos hq]

theorem State.resumeOn_held (h : (s.chan n).state = .held) (hq : (s.chan n).queue ≠ []) :
    s.resumeOn n =
      ((s.setResult .ok).setChan n { s.chan n with state := .busy, overrun := false }).checkUnit n := by
  simp only [State.resumeOn, h, if_neg hq]

theorem State.resumeOn_faulted (h : (s.chan n).state = .faulted) :
    s.resumeOn n =
      ((s.setResult .ok).setChan n
        { s.chan n with state := .busy, overrun := false, latch := (s.chan n).retryLatch }).checkUnit n := by
  simp only [State.resumeOn, h]

theorem State.resumeOn_refused (h : (s.chan n).state = .off ∨ (s.chan n).state = .ready ∨ (s.chan n).state = .busy ∨
    (s.chan n).state = .posting) : s.resumeOn n = s.setResult .badState := by
  rcases h with h | h | h | h <;> simp only [State.resumeOn, h]

end

/-- Settles O44: RESUME by the state of the channel; from FAULTED the latch is what `Channel.retryLatch` leaves. -/
theorem resumeSetsAChannelGoing : Obligations.ResumeSetsAChannelGoing := by
  intro data s hs
  refine ⟨fun h => congrArg _ (State.windowCycle_strobe_badIndex hs _ h), fun n hn => ?_⟩
  have hresume : exec (.resume data) s = .next (s.released.resumeOn n) :=
    congrArg _ (State.windowCycle_strobe_index hs _ hn)
  rw [hresume]
  refine ⟨fun h hq => congrArg _ (State.resumeOn_empty (s := s.released) h hq),
    fun h hq => congrArg _ (State.resumeOn_held (s := s.released) h hq), fun d rest h hq => ?faulted,
    fun h => congrArg _ (State.resumeOn_refused (s := s.released) h)⟩
  case faulted =>
    rw [State.resumeOn_faulted (s := s.released) h, State.chan_released, Channel.retryLatch_cons hq]

/-! ### SKIP (R123) -/

/-- A head posted: taken in the same event with room in the log (R132), else waiting (R133). -/
theorem State.postHead_cons {s : State} {n : Fin 4} {d : Descriptor} {rest : List Descriptor}
    (hq : (s.chan n).queue = d :: rest) (status : Status) :
    s.postHead n status =
      let posting := s.setChan n { s.chan n with
        state := .posting,
        offer := some { status := status, tag := d.tag, remaining := d.remaining, notify := d.notify } }
      if s.clog.records.length < 16 then posting.takeRecord n else posting := by
  rw [State.postHead, Channel.post_cons hq]
  rfl

section
variable {s : State} {n : Fin 4}

theorem State.skipOn_aborts (h : (s.chan n).state = .faulted ∨ (s.chan n).state = .held)
    (hq : (s.chan n).queue ≠ []) : s.skipOn n = (s.setResult .ok).postHead n .aborted := by
  rcases h with h | h
  · simp only [State.skipOn, h]
  · simp only [State.skipOn, h, if_neg hq]

theorem State.skipOn_empty (h : (s.chan n).state = .held) (hq : (s.chan n).queue = []) :
    s.skipOn n = s.setResult .empty := by
  simp only [State.skipOn, h, if_pos hq]

theorem State.skipOn_refused (h : (s.chan n).state = .off ∨ (s.chan n).state = .ready ∨ (s.chan n).state = .busy ∨
    (s.chan n).state = .posting) : s.skipOn n = s.setResult .badState := by
  rcases h with h | h | h | h <;> simp only [State.skipOn, h]

end

/-- Settles O45: SKIP by the state of the channel; the ABORTED record is a head posted. -/
theorem skipOffersAnAbortedRecord : Obligations.SkipOffersAnAbortedRecord := by
  intro data s hs
  refine ⟨fun h => congrArg _ (State.windowCycle_strobe_badIndex hs _ h), fun n hn => ?_⟩
  have hskip : exec (.skip data) s = .next (s.released.skipOn n) :=
    congrArg _ (State.windowCycle_strobe_index hs _ hn)
  rw [hskip]
  refine ⟨fun d rest h hq => ?aborts, fun h hq => congrArg _ (State.skipOn_empty (s := s.released) h hq),
    fun h => congrArg _ (State.skipOn_refused (s := s.released) h)⟩
  case aborts =>
    rw [State.skipOn_aborts (s := s.released) h (by simp [hq]),
      State.postHead_cons (s := s.released.setResult .ok) hq]
    exact ⟨fun hroom => congrArg _ (if_pos hroom), fun hfull => congrArg _ (if_neg (Nat.not_lt.mpr hfull))⟩

/-! ### FLUSH (R99, R124) -/

theorem Channel.flushed_eq (c : Channel) :
    c.flushed = { c with
      state := .off, queue := [], latch := false, overrun := false, holdPending := false, flushPending := false,
      port := .none, inUse := c.stored, offer := none, tak := false, tend := false } := by rfl

theorem State.flushNow_eq (s : State) (n : Fin 4) :
    s.flushNow n = { s with txe := { s.txe with
      flushn := (s.chan n).queue.length, chans := s.txe.chans.set n (s.chan n).flushed } } := by rfl

section
variable {s : State} {n : Fin 4}

theorem State.flushOn_granted (h : (s.chan n).granted = true) :
    s.flushOn n = (s.setResult .ok).setChan n { s.chan n with flushPending := true } := by
  simp only [State.flushOn, if_pos h]

theorem State.flushOn_free (h : (s.chan n).granted = false) : s.flushOn n = (s.setResult .ok).flushNow n := by
  simp [State.flushOn, h]

end

theorem State.readRegister_flushn (s : State) : s.readRegister 0x11 = BitVec.ofNat 8 s.txe.flushn := by rfl

/-- Settles O46: FLUSH by the grant of the channel; what a flush leaves is `Channel.flushed_eq`. -/
theorem flushClearsAChannel : Obligations.FlushClearsAChannel := by
  refine ⟨fun data s hs => ?strobe, fun u hu => ?read, fun c => ⟨Channel.granted_iff, c.flushed_eq⟩⟩
  case strobe =>
    refine ⟨fun h => congrArg _ (State.windowCycle_strobe_badIndex hs _ h), fun n hn => ?_⟩
    have hflush : exec (.flush data) s = .next (s.released.flushOn n) :=
      congrArg _ (State.windowCycle_strobe_index hs _ hn)
    rw [hflush]
    refine ⟨fun hg => congrArg _ (State.flushOn_granted (s := s.released) hg), fun hg => ?_⟩
    rw [State.flushOn_free (s := s.released) hg, State.flushNow_eq, Channel.flushed_eq]
    rfl
  case read =>
    rw [State.readRegister_flushn, BitVec.toNat_ofNat]
    omega

end Sys2Proof.Machine
end

section
/-! The request lines (8.3): TRQ_ASSERT by the sense, the state and the latch, TRQ_DEASSERT, and what it is for a claim
or a grant to leave a channel. -/
namespace Sys2Proof.Machine

/-! ### The asserting edge (R114 to R116) -/

theorem exec_trqAssert (n : Fin 4) (s : State) : exec (.trqAssert n) s = .next (s.trqEdge n) := by rfl

/-- A report is filed whatever the channels hold. -/
theorem State.fileFault_setChan (s : State) (n : Fin 4) (c : Channel) (r : FaultRecord) :
    (s.setChan n c).fileFault r = (s.fileFault r).setChan n c := by
  rcases Nat.lt_or_ge s.flog.records.length 4 with h | h
  · rw [State.fileFault_room h, State.fileFault_room (s := s.setChan n c) h]
    rfl
  · rw [State.fileFault_full h, State.fileFault_full (s := s.setChan n c) h]
    rfl

theorem State.giveUpGrant_inProgress {s : State} {o : Operation} (ho : s.mseq.op = some o) :
    s.giveUpGrant = { s with parb := { s.parb with holder := .residual } } := by
  simp only [State.giveUpGrant, ho]

/-- A grant is given up whatever the channels hold. -/
theorem State.giveUpGrant_setChan (s : State) (n : Fin 4) (c : Channel) :
    (s.setChan n c).giveUpGrant = s.giveUpGrant.setChan n c := by
  simp only [State.giveUpGrant, State.setChan_mseq]
  split <;> rfl

/-- The overrun flag apart, it is the same channel that leaves its claim or its grant. -/
theorem Channel.release_overrun_set (c : Channel) :
    Channel.release { c with overrun := true } = { c.release with overrun := true } := by rfl

theorem ChanState.latches_iff {st : ChanState} : st.latches = true ↔ st ≠ .off ∧ st ≠ .faulted := by
  cases st <;> simp [ChanState.latches]

/-- The report of an overrun on channel n (R115, R141). -/
def overrunReport (n : Fin 4) (c : Channel) : FaultRecord :=
  { source := .channel n, kind := .overrun, dir := .none, logical := none, physical := none, tag := c.headTag }

section
variable {s : State} {n : Fin 4} {c : Channel}

/-- An overrun that leaves the channel in its state (R115). -/
theorem State.overrunOn_stays (h : c.state ≠ .busy ∨ c.flushPending = true) :
    (s.setChan n c).overrunOn n = (s.fileFault (overrunReport n c)).setChan n { c with overrun := true } := by
  have hnot : ¬ (c.state = .busy ∧ c.flushPending = false) := by
    rintro ⟨hbusy, hflush⟩
    simp [hbusy, hflush] at h
  simp only [State.overrunOn, State.chan_setChan_same, if_neg hnot, State.fileFault_setChan, State.setChan_setChan]
  rfl

variable (hbusy : c.state = .busy) (hflush : c.flushPending = false)
include hbusy hflush

/-- An overrun that faults a channel without the grant: its claim is withdrawn (R115). -/
theorem State.overrunOn_withdraws (hg : c.granted = false) :
    (s.setChan n c).overrunOn n =
      (s.fileFault (overrunReport n c)).setChan n
        { c.release with overrun := true, state := .faulted, holdPending := false } := by
  have hng : ¬ Channel.granted { c with overrun := true } = true := Bool.eq_false_iff.mp hg
  simp only [State.overrunOn, State.chan_setChan_same, if_pos (And.intro hbusy hflush), if_neg hng,
    State.fileFault_setChan, State.setChan_setChan, Channel.release_overrun_set]
  rfl

/-- An overrun that faults a channel with the grant: the operation in progress is left to RESIDUAL (R112). -/
theorem State.overrunOn_givesUp (hg : c.granted = true) {o : Operation} (ho : s.mseq.op = some o) :
    (s.setChan n c).overrunOn n =
      ({ s.fileFault (overrunReport n c) with parb := { s.parb with holder := .residual } } : State).setChan n
        { c.release with overrun := true, state := .faulted, holdPending := false } := by
  have hgranted : Channel.granted { c with overrun := true } = true := hg
  have hfiled (r : FaultRecord) : (s.fileFault r).mseq.op = some o := by rw [State.fileFault_mseq, ho]
  simp only [State.overrunOn, State.chan_setChan_same, if_pos (And.intro hbusy hflush), if_pos hgranted,
    State.fileFault_setChan, State.giveUpGrant_setChan, State.giveUpGrant_inProgress (hfiled _), State.setChan_setChan,
    State.fileFault_parb, Channel.release_overrun_set]
  rfl

end

section
variable {s : State} {n : Fin 4}

theorem State.trqEdge_level (h : (s.chan n).inUse.sense = .level) :
    s.trqEdge n = (s.setChan n { s.chan n with trq := true }).checkUnit n := by
  simp only [State.trqEdge, h]

variable (hedge : (s.chan n).inUse.sense = .edge)
include hedge

theorem State.trqEdge_ignored (h : (s.chan n).state = .off ∨ (s.chan n).state = .faulted) :
    s.trqEdge n = s.setChan n { s.chan n with trq := true } := by
  have hnot : ¬ (s.chan n).state.latches = true := by
    rw [ChanState.latches_iff]
    tauto
  simp only [State.trqEdge, hedge, if_neg hnot]

variable (hstate : (s.chan n).state ≠ .off ∧ (s.chan n).state ≠ .faulted)
include hstate

theorem State.trqEdge_latched (h : (s.chan n).latch = false) :
    s.trqEdge n = (s.setChan n { s.chan n with trq := true, latch := true }).checkUnit n := by
  simp [State.trqEdge, hedge, ChanState.latches_iff.mpr hstate, h]

theorem State.trqEdge_overruns (h : (s.chan n).latch = true) :
    s.trqEdge n = (s.setChan n { s.chan n with trq := true }).overrunOn n := by
  simp only [State.trqEdge, hedge, if_pos (ChanState.latches_iff.mpr hstate), if_pos h]

end

/-- Settles O49: the edge by the sense, the state and the latch; an overrun by what it does to the channel. -/
theorem assertingEdgeIsLatchedOrOverruns : Obligations.AssertingEdgeIsLatchedOrOverruns := by
  intro n s c reported
  rw [exec_trqAssert]
  refine ⟨fun h => congrArg _ (State.trqEdge_level h), fun hedge h => congrArg _ (State.trqEdge_ignored hedge h),
    fun hedge hoff hfaulted => ⟨fun hl => congrArg _ (State.trqEdge_latched hedge ⟨hoff, hfaulted⟩ hl),
      fun hl => ?overruns⟩⟩
  case overruns =>
    rw [State.trqEdge_overruns hedge ⟨hoff, hfaulted⟩ hl]
    exact ⟨fun h => congrArg _ (State.overrunOn_stays h),
      fun hbusy hflush hg => congrArg _ (State.overrunOn_withdraws hbusy hflush hg),
      fun o hbusy hflush hg ho => congrArg _ (State.overrunOn_givesUp hbusy hflush hg ho)⟩

/-! ### The deasserting edge (R116, R117) -/

theorem Channel.release_eq (c : Channel) :
    c.release = { c with port := .none, tak := false, tend := false, inUse := c.stored,
                         latch := c.latch && (c.inUse.sense == c.stored.sense) } :=
  Channel.adopt_of_free rfl

theorem Channel.pacedHead_cons {c : Channel} {d : Descriptor} {rest : List Descriptor} (hq : c.queue = d :: rest) :
    c.pacedHead = (d.pacing == .paced) := by
  simp only [Channel.pacedHead, hq]

section
variable {s : State} {n : Fin 4}

theorem exec_trqDeassert_withdraws (hlevel : (s.chan n).inUse.sense = .level) (hclaims : (s.chan n).claims = true)
    (hpaced : (s.chan n).pacedHead = true) :
    exec (.trqDeassert n) s =
      .next ((s.setChan n (Channel.release { s.chan n with trq := false })).checkUnit n) :=
  if_pos ⟨hlevel, hclaims, hpaced⟩

theorem exec_trqDeassert_falls
    (h : ¬ ((s.chan n).inUse.sense = .level ∧ (s.chan n).claims = true ∧ (s.chan n).pacedHead = true)) :
    exec (.trqDeassert n) s = .next (s.setChan n { s.chan n with trq := false }) :=
  if_neg h

end

/-- The line inactive and the latch kept under LEVEL alone: no pacing condition of a PACED head is met. -/
theorem Channel.pacingHolds_inactive {c : Channel} {d : Descriptor} (hpaced : d.pacing = .paced)
    (htrq : c.trq = false) (hlatch : c.inUse.sense = .edge → c.latch = false) : c.pacingHolds d = false := by
  rw [Channel.pacingHolds_eq_false_iff]
  cases hsense : c.inUse.sense with
  | edge => exact .inl ⟨hpaced, rfl, hlatch hsense⟩
  | level => exact .inr ⟨hpaced, rfl, htrq⟩

/-- Settles O50: the claim of a PACED head under LEVEL is released, and nothing else changes but the line. -/
theorem deassertionWithdrawsALevelClaim : Obligations.DeassertionWithdrawsALevelClaim := by
  refine ⟨fun n s => ⟨fun limit d rest hlevel hclaim hq hpaced => ?withdraws, fun h => ?falls⟩, Channel.release_eq⟩
  case withdraws =>
    have hclaims : (s.chan n).claims = true := Channel.claims_iff.mpr ⟨limit, hclaim⟩
    have hhead : (s.chan n).pacedHead = true := by simp [Channel.pacedHead_cons hq, hpaced]
    refine ⟨?_, State.checkUnit_waits (d := d) (rest := rest) (by simpa using hq) ?_⟩
    · rw [exec_trqDeassert_withdraws hlevel hclaims hhead, Channel.release_eq, hlevel, BEq.comm]
    · refine Channel.pacingHolds_inactive hpaced (by simp) fun hedge => ?_
      rw [State.chan_setChan_same] at hedge ⊢
      simp [show (s.chan n).stored.sense = .edge from hedge]
  case falls =>
    refine exec_trqDeassert_falls ?_
    rintro ⟨hlevel, hclaims, hhead⟩
    rcases h with hedge | hnone | hfree
    · cases hedge.symm.trans hlevel
    · obtain ⟨limit, hclaim⟩ := Channel.claims_iff.mp hclaims
      exact hnone limit hclaim
    · cases hq : (s.chan n).queue with
      | nil => simp [Channel.pacedHead, hq] at hhead
      | cons d rest => simp [Channel.pacedHead_cons hq, hfree d rest hq] at hhead

end Sys2Proof.Machine
end

section
/-! The end of a unit (8.2): UNIT_COMPLETE, the pending flags, the end of the grant and the burst that goes on. -/
namespace Sys2Proof.Machine

theorem exec_unitComplete_due {s : State} {left : Nat} {n : Fin 4} {dst : Access} {b : Byte}
    (hop : s.mseq.op = some ⟨.write, left, .unitWrite n dst b⟩) (hholder : s.parb.holder = .channel n)
    (hext : s.mseq.extension < 256) : exec .unitComplete s = .next (s.finishUnit n) := by
  simp [exec, execUnitComplete, hop, hholder, State.mayComplete, hext]

/-! ### What follows the unit (R53, R54, R110, R125) -/

theorem Channel.not_flagged {c : Channel} (hf : c.flushPending = false) (hh : c.holdPending = false) :
    ¬ (c.flushPending = true ∨ c.holdPending = true) := by
  simp [hf, hh]

section
variable {s : State} {n : Fin 4} {d : Descriptor} {rest : List Descriptor} (hq : (s.chan n).queue = d :: rest)
include hq

theorem State.finishUnit_flush (hf : (s.chan n).flushPending = true) :
    s.finishUnit n = (s.unitEnded n d rest).flushNow n := by
  have hflush : ((s.unitEnded n d rest).chan n).flushPending = true := by rw [State.unitEnded_chan]; exact hf
  rw [← State.actPending_of_flush hflush]
  simp only [State.finishUnit, hq, if_pos (Or.inl hf)]
  rfl

variable (hf : (s.chan n).flushPending = false)
include hf

theorem State.finishUnit_hold (hh : (s.chan n).holdPending = true) :
    s.finishUnit n =
      if d.advance.remaining = 0 then (s.unitEnded n d rest).postHead n .done
      else (s.unitEnded n d rest).setChan n
        { (s.unitEnded n d rest).chan n with state := .held, holdPending := false } := by
  have hchan := s.unitEnded_chan n d rest
  rw [← State.actPending_of_hold (by rw [hchan]; exact hf) (by rw [hchan]; exact hh) (s.unitEnded_queue n d rest)]
  simp only [State.finishUnit, hq, if_pos (Or.inr hh)]
  rfl

/-- With nothing left the record is posted, a pending hold or not (R118, R125). -/
theorem State.finishUnit_post (hzero : d.advance.remaining = 0) :
    s.finishUnit n = (s.unitEnded n d rest).postHead n .done := by
  cases hh : (s.chan n).holdPending with
  | true => rw [State.finishUnit_hold hq hf hh, if_pos hzero]
  | false =>
    simp only [State.finishUnit, hq, if_neg (Channel.not_flagged hf hh), if_pos hzero]
    rfl

variable (hh : (s.chan n).holdPending = false) (hleft : d.advance.remaining ≠ 0)
include hh hleft

/-- The grant ends, and the next unit is checked (R53, R54, R108). -/
theorem State.finishUnit_ends (h : d.pacing = .paced ∨ (s.chan n).port.burstOpen = false ∨ s.yields = true) :
    s.finishUnit n = (s.unitEnded n d rest).checkUnit n := by
  have hends : ¬ (d.pacing = .free ∧ (s.chan n).port.burstOpen = true ∧ s.yields = false) := by
    rintro ⟨hfree, hopen, hyields⟩
    simp [hfree, hopen, hyields] at h
  simp only [State.finishUnit, hq, if_neg (Channel.not_flagged hf hh), if_neg hleft, if_neg hends]
  rfl

variable (hgo : d.pacing = .free ∧ (s.chan n).port.burstOpen = true ∧ s.yields = false)
include hgo

theorem State.finishUnit_goesOn {m k : Fin 4}
    (hv : unitVerdict s.rgd.regions d.advance.curSrc d.advance.curDst = .pass m k) :
    s.finishUnit n =
      (s.idleMseq.setChan n { s.chan n with
        queue := d.advance :: rest, port := (s.chan n).port.unitMoved, tend := false }).beginUnit n d.advance m k := by
  simp only [State.finishUnit, hq, if_neg (Channel.not_flagged hf hh), if_neg hleft, if_pos hgo, hv]

theorem State.finishUnit_fails {kind : FaultKind} {dir : FaultDir} {addr : PhysAddr}
    (hv : unitVerdict s.rgd.regions d.advance.curSrc d.advance.curDst = .fail kind dir addr) :
    s.finishUnit n = (s.unitEnded n d rest).checkUnit n := by
  simp only [State.finishUnit, hq, if_neg (Channel.not_flagged hf hh), if_neg hleft, if_pos hgo, hv]
  rfl

end

/-- The READ of a unit begins in place of whatever MSEQ held (R60, R63). -/
theorem State.beginUnit_idleMseq (s : State) (n : Fin 4) (c : Channel) (d : Descriptor) (m k : Fin 4) :
    (s.idleMseq.setChan n c).beginUnit n d m k =
      (s.setChan n c).startOp
        (.unitRead n (captureAccess s.rgd.regions .read d.curSrc m) (captureAccess s.rgd.regions .write d.curDst k))
        (nextForAccess s.rgd.regions s.mseq.record (captureAccess s.rgd.regions .read d.curSrc m)) :=
  State.beginWork_some rfl

/-- What a flush leaves is the same with the claim or the grant gone before it. -/
theorem Channel.flushed_release (c : Channel) : c.release.flushed = c.flushed := by rfl

theorem State.unitEnded_flushNow (s : State) (n : Fin 4) (d : Descriptor) (rest : List Descriptor) :
    (s.unitEnded n d rest).flushNow n = { s.endGrant with txe := { s.txe with
      flushn := rest.length + 1,
      chans := s.txe.chans.set n (Channel.flushed { s.chan n with queue := d.advance :: rest }) } } := by
  rw [State.flushNow_eq, State.unitEnded_chan, Channel.flushed_release]
  simp [State.unitEnded, State.setChan]

/-- Settles O52: the head advanced, then each of what R110 and R125 ask for, in their order. -/
theorem unitCompleteAdvancesTheHead : Obligations.UnitCompleteAdvancesTheHead := by
  refine ⟨fun s left n dst b d rest hop hholder hq hext => ?unit,
    fun limit moved => ⟨PortRequest.burstOpen_iff, rfl, fun _ => rfl⟩, fun s => State.yields_iff⟩
  case unit =>
    rw [exec_unitComplete_due hop hholder hext]
    refine ⟨fun hf => ?flush, fun hf hzero => ?post, fun hf hh hleft => ?hold, fun hf hh hleft =>
      ⟨fun h => congrArg _ (State.finishUnit_ends hq hf hh hleft h), fun m k hfree hopen hyields hv => ?goesOn,
        fun kind dir addr hfree hopen hyields hv =>
          congrArg _ (State.finishUnit_fails hq hf hh hleft ⟨hfree, hopen, hyields⟩ hv)⟩⟩
    case flush => exact ⟨_, rfl, (State.finishUnit_flush hq hf).trans (s.unitEnded_flushNow n d rest)⟩
    case post =>
      rw [State.finishUnit_post hq hf hzero, State.postHead_cons (s.unitEnded_queue n d rest), State.unitEnded_chan,
        State.unitEnded, State.setChan_setChan]
      exact ⟨fun hroom => congrArg _ (if_pos hroom), fun hfull => congrArg _ (if_neg (Nat.not_lt.mpr hfull))⟩
    case hold =>
      rw [State.finishUnit_hold hq hf hh, if_neg hleft, State.unitEnded_chan, State.unitEnded, State.setChan_setChan]
      rfl
    case goesOn =>
      rw [State.finishUnit_goesOn hq hf hh hleft ⟨hfree, hopen, hyields⟩ hv, State.beginUnit_idleMseq]
      rfl

end Sys2Proof.Machine
end

section
/-! The Completion Log (chapter 9): the sequence numbers after every step, the LOGPOP strobe and the slot it frees, and
the view registers. -/
namespace Sys2Proof.Machine

/-! ### The sequence numbers (R131) -/

/-- Settles O7: what every step keeps by `step_keeps`. A record taken joins the tail with the next number
(`seqRun_append`), and LOGPOP removes the head (`seqRun_tail`). -/
theorem stepKeepsSequenceNumbersConsecutive : Obligations.StepKeepsSequenceNumbersConsecutive :=
  fun _ _ hs ht => (step_keeps ht).sequence hs

/-! ### LOGPOP (R134, R137) -/

theorem exec_logpop_quiet {s : State} (hs : s.busQuiet) (data : Byte) :
    exec (.logpop data) s = .next s.released.logpop :=
  congrArg _ (State.windowCycle_quiet hs _)

section
variable {s : State} {r : CompletionRecord} {rest : List CompletionRecord}

theorem State.logpop_empty (hlog : s.clog.records = []) : s.logpop = s.setResult .empty := by
  simp only [State.logpop, hlog]

/-- The oldest record leaves before the freed slot is handed out. -/
theorem State.logpop_cons (hlog : s.clog.records = r :: rest) : s.logpop = (s.popped rest).takeWaiting := by
  simp only [State.logpop, hlog, State.popped]

theorem State.logpop_noneWaiting (hlog : s.clog.records = r :: rest) (hnone : ∀ m, (s.chan m).state ≠ .posting) :
    s.logpop = s.popped rest := by
  rw [State.logpop_cons hlog]
  exact State.takeWaiting_none hnone

theorem State.logpop_lowestWaiting {n : Fin 4} (hlog : s.clog.records = r :: rest) (hn : (s.chan n).state = .posting)
    (hlow : ∀ m < n, (s.chan m).state ≠ .posting) (hroom : rest.length < 16) :
    s.logpop = (s.popped rest).takeRecord n := by
  rw [State.logpop_cons hlog]
  exact State.takeWaiting_lowest hn hlow hroom

end

/-! ### The view registers (R138, 11.8) -/

section
variable (s : State)

theorem State.readRegister_logcnt : s.readRegister 0x30 = BitVec.ofNat 8 s.clog.records.length := by rfl

theorem State.readRegister_lseq :
    s.readRegister 0x31 = (s.clog.records.head?.map CompletionRecord.seq).getD 0 := by rfl

theorem State.readRegister_lchst :
    s.readRegister 0x32 = (s.clog.records.head?.map CompletionRecord.lchst).getD 0 := by rfl

theorem State.readRegister_ltag :
    s.readRegister 0x33 = (s.clog.records.head?.map CompletionRecord.tag).getD 0 := by rfl

theorem State.readRegister_lrem_low :
    s.readRegister 0x34 = (s.clog.records.head?.map (fun r => getByte r.remaining 0)).getD 0 := by rfl

theorem State.readRegister_lrem_high :
    s.readRegister 0x35 = (s.clog.records.head?.map (fun r => getByte r.remaining 1)).getD 0 := by rfl

end

/-- LCHST: notify in bit 3, ABORTED in bit 2, the channel in bits 1 and 0 (11.8). -/
theorem CompletionRecord.lchst_toNat (r : CompletionRecord) :
    r.lchst.toNat = 8 * r.notify.toNat + (if r.status = .aborted then 4 else 0) + r.channel.val := by
  have haborted : (r.status == .aborted).toNat * 4 = if r.status = .aborted then 4 else 0 := by
    cases r.status <;> rfl
  unfold CompletionRecord.lchst
  rw [BitVec.toNat_append, ← Nat.shiftLeft_add_eq_or_of_lt (BitVec.isLt _), BitVec.toNat_append,
    ← Nat.shiftLeft_add_eq_or_of_lt (BitVec.isLt _), BitVec.toNat_append, ← haborted]
  simp [Nat.shiftLeft_eq]
  omega

/-- The offsets from LSEQ to the high byte of LREM (11.6). -/
theorem Offset.oldestRecordView {off : Offset} (hlow : 0x31 ≤ off.toNat) (hhigh : off.toNat ≤ 0x35) :
    off = 0x31 ∨ off = 0x32 ∨ off = 0x33 ∨ off = 0x34 ∨ off = 0x35 := by
  bv_omega

theorem State.readRegister_emptyLog {s : State} (hlog : s.clog.records = []) {off : Offset}
    (hlow : 0x31 ≤ off.toNat) (hhigh : off.toNat ≤ 0x35) : s.readRegister off = 0 := by
  rcases Offset.oldestRecordView hlow hhigh with rfl | rfl | rfl | rfl | rfl
  · rw [State.readRegister_lseq, hlog]; rfl
  · rw [State.readRegister_lchst, hlog]; rfl
  · rw [State.readRegister_ltag, hlog]; rfl
  · rw [State.readRegister_lrem_low, hlog]; rfl
  · rw [State.readRegister_lrem_high, hlog]; rfl

/-- Settles O54: the strobe by whether the log holds a record and whether a channel waits, the view register by
register. -/
theorem logpopFreesASlot : Obligations.LogpopFreesASlot := by
  refine ⟨fun data s hs => ?strobe, fun u => ⟨fun hlen => ?count, fun hlog off => State.readRegister_emptyLog hlog,
    fun r rest hlog => ?oldest⟩⟩
  case strobe =>
    rw [exec_logpop_quiet hs]
    exact ⟨fun hlog => congrArg _ (State.logpop_empty (s := s.released) hlog), fun r rest hlog =>
      ⟨fun hnone => congrArg _ (State.logpop_noneWaiting (s := s.released) hlog hnone), fun n hn hlow hroom =>
        congrArg _ (State.logpop_lowestWaiting (s := s.released) hlog hn hlow hroom)⟩⟩
  case count =>
    rw [State.readRegister_logcnt, BitVec.toNat_ofNat]
    omega
  case oldest =>
    rw [State.readRegister_lseq, State.readRegister_lchst, State.readRegister_ltag, State.readRegister_lrem_low,
      State.readRegister_lrem_high, hlog]
    exact ⟨rfl, r.lchst_toNat, rfl, getByte_join16 r.remaining⟩

end Sys2Proof.Machine
end

section
/-! The Fault Log (10.4, 10.5): the FLTPOP strobe and the view registers. -/
namespace Sys2Proof.Machine

/-! ### FLTPOP (R144) -/

theorem exec_fltpop_quiet {s : State} (hs : s.busQuiet) (data : Byte) :
    exec (.fltpop data) s = .next s.released.fltpop :=
  congrArg Host.Outcome.next (State.windowCycle_quiet hs _)

theorem State.fltpop_empty {s : State} (hlog : s.flog.records = []) : s.fltpop = s.setResult .empty := by
  simp only [State.fltpop, hlog]

theorem State.fltpop_cons {s : State} {r : FaultRecord} {rest : List FaultRecord}
    (hlog : s.flog.records = r :: rest) :
    s.fltpop = { s.setResult .ok with flog := { s.flog with records := rest } } := by
  simp only [State.fltpop, hlog]
  rfl

/-! ### The view registers (R146, 11.8) -/

section
variable (s : State)

theorem State.readRegister_fltcnt : s.readRegister 0x38 = BitVec.ofNat 8 s.flog.records.length := by rfl

theorem State.readRegister_fkind :
    s.readRegister 0x39 = (s.flog.records.head?.map FaultRecord.fkind).getD 0 := by rfl

theorem State.readRegister_flogadr_low :
    s.readRegister 0x3A = getByte ((s.flog.records.head?.bind FaultRecord.logical).getD 0) 0 := by rfl

theorem State.readRegister_flogadr_high :
    s.readRegister 0x3B = getByte ((s.flog.records.head?.bind FaultRecord.logical).getD 0) 1 := by rfl

theorem State.readRegister_fphys_low :
    s.readRegister 0x3C = getByte ((s.flog.records.head?.bind FaultRecord.physical).getD 0) 0 := by rfl

theorem State.readRegister_fphys_mid :
    s.readRegister 0x3D = getByte ((s.flog.records.head?.bind FaultRecord.physical).getD 0) 1 := by rfl

theorem State.readRegister_fphys_high :
    s.readRegister 0x3E = getByte ((s.flog.records.head?.bind FaultRecord.physical).getD 0) 2 := by rfl

theorem State.readRegister_ftag :
    s.readRegister 0x3F = (s.flog.records.head?.bind FaultRecord.tag).getD 0 := by rfl

/-- FLOGADR of the oldest record, 0000h where that is absent. -/
theorem State.readRegister_flogadr :
    s.readRegister 0x3B ++ s.readRegister 0x3A = (s.flog.records.head?.bind FaultRecord.logical).getD 0 := by
  rw [State.readRegister_flogadr_high, State.readRegister_flogadr_low]
  exact getByte_join16 _

/-- FPHYS of the oldest record, 000000h where that is absent. -/
theorem State.readRegister_fphys :
    s.readRegister 0x3E ++ s.readRegister 0x3D ++ s.readRegister 0x3C =
      (s.flog.records.head?.bind FaultRecord.physical).getD 0 := by
  rw [State.readRegister_fphys_high, State.readRegister_fphys_mid, State.readRegister_fphys_low]
  exact getByte_join24 _

end

/-- The offsets from FKIND to FTAG (11.6). -/
theorem Offset.oldestFaultView {off : Offset} (hlow : 0x39 ≤ off.toNat) (hhigh : off.toNat ≤ 0x3F) :
    off = 0x39 ∨ off = 0x3A ∨ off = 0x3B ∨ off = 0x3C ∨ off = 0x3D ∨ off = 0x3E ∨ off = 0x3F := by
  bv_omega

theorem State.readRegister_emptyFaultLog {s : State} (hlog : s.flog.records = []) {off : Offset}
    (hlow : 0x39 ≤ off.toNat) (hhigh : off.toNat ≤ 0x3F) : s.readRegister off = 0 := by
  rcases Offset.oldestFaultView hlow hhigh with rfl | rfl | rfl | rfl | rfl | rfl | rfl
  · rw [State.readRegister_fkind, hlog]; rfl
  · rw [State.readRegister_flogadr_low, hlog]; rfl
  · rw [State.readRegister_flogadr_high, hlog]; rfl
  · rw [State.readRegister_fphys_low, hlog]; rfl
  · rw [State.readRegister_fphys_mid, hlog]; rfl
  · rw [State.readRegister_fphys_high, hlog]; rfl
  · rw [State.readRegister_ftag, hlog]; rfl

/-- FKIND: the channel in bits 7 and 6, then the three fields present, the code in bits 2 to 0 (11.8). -/
theorem FaultRecord.fkind_toNat (r : FaultRecord) :
    r.fkind.toNat =
      64 * r.source.chan.val + 32 * r.tag.isSome.toNat + 16 * r.physical.isSome.toNat + 8 * r.logical.isSome.toNat +
        (faultCode r.kind r.dir).toNat := by
  unfold FaultRecord.fkind
  rw [BitVec.toNat_append, ← Nat.shiftLeft_add_eq_or_of_lt (BitVec.isLt _), BitVec.toNat_append,
    ← Nat.shiftLeft_add_eq_or_of_lt (BitVec.isLt _), BitVec.toNat_append,
    ← Nat.shiftLeft_add_eq_or_of_lt (BitVec.isLt _), BitVec.toNat_append,
    ← Nat.shiftLeft_add_eq_or_of_lt (BitVec.isLt _)]
  simp [Nat.shiftLeft_eq]
  omega

/-- The eight kinds of FKIND with their directions and codes (11.8). -/
def faultCodes : List (FaultKind × FaultDir × Nat) :=
  [(.rights, .read, 0), (.rights, .write, 1), (.unmapped, .read, 2), (.unmapped, .write, 3), (.protect, .write, 4),
   (.timeout, .read, 5), (.timeout, .write, 6), (.overrun, .none, 7)]

theorem faultCode_of_mem {kind : FaultKind} {dir : FaultDir} {code : Nat} (h : (kind, dir, code) ∈ faultCodes) :
    (faultCode kind dir).toNat = code := by
  have hcodes : ∀ e ∈ faultCodes, (faultCode e.1 e.2.1).toNat = e.2.2 := by decide
  exact hcodes _ h

/-- Settles O55: the strobe by whether the log holds a record, the view register by register. -/
theorem fltpopRemovesTheOldestRecord : Obligations.FltpopRemovesTheOldestRecord := by
  refine ⟨fun data s hs => ?strobe, fun u => ⟨fun hlen => ?count,
    fun hlog off => State.readRegister_emptyFaultLog hlog, fun r rest hlog => ?oldest⟩⟩
  case strobe =>
    rw [exec_fltpop_quiet hs]
    exact ⟨fun hlog => congrArg _ (State.fltpop_empty (s := s.released) hlog),
      fun r rest hlog => congrArg _ (State.fltpop_cons (s := s.released) hlog)⟩
  case count =>
    rw [State.readRegister_fltcnt, BitVec.toNat_ofNat]
    omega
  case oldest =>
    rw [State.readRegister_flogadr, State.readRegister_fphys, State.readRegister_ftag, State.readRegister_fkind, hlog]
    refine ⟨fun code hcode => ?_, rfl, rfl, rfl⟩
    refine r.fkind_toNat.trans ?_
    rw [faultCode_of_mem hcode]
    cases r.source <;> rfl

end Sys2Proof.Machine
end

section
/-! The Interrupt Unit (10.6, 10.7): the causes bit by bit, INTEN, INTCAUSE and IRQ. -/
namespace Sys2Proof.Machine

/-! ### The causes (R147, R150) -/

section
variable (s : State)

theorem State.causes_eq_concat :
    s.causes =
      ((((BitVec.ofBool s.flog.overflow).concat s.iru.port).concat s.iru.lost).concat s.faultCause).concat
        s.logCause := by rfl

theorem State.causes_log : s.causes.getLsbD 0 = s.clog.records.any (fun r => r.notify) := by
  simp [State.causes_eq_concat, State.logCause]

theorem State.causes_fault : s.causes.getLsbD 1 = !s.flog.records.isEmpty := by
  simp [State.causes_eq_concat, State.faultCause]

theorem State.causes_lost : s.causes.getLsbD 2 = s.iru.lost := by
  simp [State.causes_eq_concat]

theorem State.causes_port : s.causes.getLsbD 3 = s.iru.port := by
  simp [State.causes_eq_concat]

theorem State.causes_ovfl : s.causes.getLsbD 4 = s.flog.overflow := by
  simp [State.causes_eq_concat]

theorem State.readRegister_intcause : s.readRegister 0x4E = s.causes.setWidth 8 := by rfl

theorem State.intcause_getLsbD {i : Nat} (hi : i < 5) : (s.readRegister 0x4E).getLsbD i = s.causes.getLsbD i := by
  have hi8 : i < 8 := by omega
  rw [State.readRegister_intcause, BitVec.getLsbD_setWidth, decide_eq_true hi8, Bool.true_and]

theorem State.intcause_toNat_lt : (s.readRegister 0x4E).toNat < 32 := by
  rw [State.readRegister_intcause, BitVec.toNat_setWidth]
  exact (Nat.mod_le _ _).trans_lt s.causes.isLt

end

/-! ### IRQ (R151) -/

theorem State.irq_iff_bit {s : State} :
    s.irq = true ↔ ∃ i < 5, s.causes.getLsbD i = true ∧ s.iru.inten.getLsbD i = true := by
  rw [State.irq, bne_iff_ne, ← not_iff_not]
  simp [BitVec.eq_of_getLsbD_eq_iff]

theorem State.irq_iff {s : State} :
    s.irq = true ↔
      ((∃ r ∈ s.clog.records, r.notify = true) ∧ s.iru.inten.getLsbD 0 = true) ∨
      (s.flog.records ≠ [] ∧ s.iru.inten.getLsbD 1 = true) ∨
      (s.iru.lost = true ∧ s.iru.inten.getLsbD 2 = true) ∨
      (s.iru.port = true ∧ s.iru.inten.getLsbD 3 = true) ∨
      (s.flog.overflow = true ∧ s.iru.inten.getLsbD 4 = true) := by
  have hbits : ∀ p : Nat → Prop, (∃ i < 5, p i) ↔ p 0 ∨ p 1 ∨ p 2 ∨ p 3 ∨ p 4 := fun p => by
    simp only [Nat.exists_lt_succ_left, Nat.not_lt_zero, false_and, exists_false, or_false]
  rw [State.irq_iff_bit, hbits, State.causes_log, State.causes_fault, State.causes_lost, State.causes_port,
    State.causes_ovfl]
  simp

/-- With no cause pending IRQ is inactive, whatever the enables. -/
theorem State.irq_of_no_cause {s : State} (h : s.causes = 0) : s.irq = false := by
  simp [State.irq, h]

/-! ### The resets (R158, R159) -/

theorem exec_ctlrst_quiet {s : State} (hs : s.busQuiet) (data : Byte) :
    exec (.ctlrst data) s = .next s.released.controllerReset :=
  congrArg Host.Outcome.next (State.windowCycle_quiet hs _)

theorem State.causes_of_none_pending {s : State} (hclog : s.clog = Clog.reset) (hflog : s.flog = Flog.reset)
    (hlost : s.iru.lost = false) (hport : s.iru.port = false) : s.causes = 0 := by
  rw [State.causes, State.logCause, State.faultCause, hclog, hflog, hlost, hport]
  decide

theorem State.pinReset_causes (s : State) : s.pinReset.causes = 0 :=
  State.causes_of_none_pending rfl rfl rfl rfl

theorem State.controllerReset_causes (s : State) : s.controllerReset.causes = 0 :=
  State.causes_of_none_pending rfl rfl rfl rfl

theorem State.residualFromChannel_iru (s : State) : s.residualFromChannel.iru = s.iru := by
  unfold State.residualFromChannel
  split
  next n _ => rcases s.giveUpGrant_cases with ⟨h, -⟩ | ⟨h, -⟩ <;> rw [h]; rfl
  all_goals rfl

theorem State.controllerReset_inten (s : State) : s.controllerReset.iru.inten = s.iru.inten := by
  rw [← s.residualFromChannel_iru, State.controllerReset]

/-- Settles O58: no cause is pending after either reset, and IRQ is its bits of cause and enable. -/
theorem irqFollowsTheEnabledCauses : Obligations.IrqFollowsTheEnabledCauses := by
  refine fun s => ⟨?pinReset, ?controllerReset, State.irq_iff⟩
  case pinReset =>
    rintro t ⟨⟩
    exact State.irq_of_no_cause s.pinReset_causes
  case controllerReset =>
    intro data t hs ht
    rw [exec_ctlrst_quiet hs] at ht
    obtain ⟨⟩ := ht
    exact State.irq_of_no_cause s.released.controllerReset_causes

/-! ### INTEN (R149) -/

theorem exec_intenWrite_quiet {s : State} (hs : s.busQuiet) (data : Byte) :
    exec (.intenWrite data) s = .next (s.released.writeInten data) :=
  congrArg Host.Outcome.next (State.windowCycle_quiet hs _)

theorem State.readRegister_inten (s : State) : s.readRegister 0x4D = s.iru.inten.setWidth 8 := by rfl

theorem byte_low5_setWidth (data : Byte) : (data.setWidth 5).setWidth 8 = data &&& 0x1F := by
  have hmask : data.toNat &&& 31 = data.toNat % 32 := Nat.and_two_pow_sub_one_eq_mod _ 5
  apply BitVec.eq_of_toNat_eq
  simp [hmask]
  omega

theorem State.readRegister_writeInten (s : State) (data : Byte) :
    (s.writeInten data).readRegister 0x4D = data &&& 0x1F := by
  rw [State.readRegister_inten, ← byte_low5_setWidth]
  rfl

theorem State.writeInten_causes (s : State) (data : Byte) : (s.writeInten data).causes = s.causes := by rfl

theorem State.writeInten_getLsbD (s : State) (data : Byte) {i : Nat} (hi : i < 5) :
    (s.writeInten data).iru.inten.getLsbD i = data.getLsbD i := by
  simp [State.writeInten, hi]

theorem State.irq_writeInten {s : State} {data : Byte} :
    (s.writeInten data).irq = true ↔ ∃ i < 5, s.causes.getLsbD i = true ∧ data.getLsbD i = true := by
  rw [State.irq_iff_bit, State.writeInten_causes]
  exact exists_congr fun i => and_congr_right fun hi => by rw [State.writeInten_getLsbD s data hi]

/-- Settles O56: the byte stored and read back, the causes untouched, IRQ by the new enables, INTEN after each reset. -/
theorem intenWriteStoresTheEnables : Obligations.IntenWriteStoresTheEnables := by
  intro data s hs
  refine ⟨s.released.writeInten data, exec_intenWrite_quiet hs data, rfl, s.released.readRegister_writeInten data,
    s.released.writeInten_causes data, rfl, State.irq_writeInten, ?pinReset, ?controllerReset⟩
  case pinReset =>
    rintro u ⟨⟩
    rfl
  case controllerReset =>
    intro b u hu
    rw [exec_ctlrst_quiet hs] at hu
    obtain ⟨⟩ := hu
    rw [State.readRegister_inten, State.controllerReset_inten]
    rfl

/-! ### INTCAUSE (R150) -/

theorem exec_intcauseWrite_quiet {s : State} (hs : s.busQuiet) (data : Byte) :
    exec (.intcauseWrite data) s = .next (s.released.writeIntcause data) :=
  congrArg Host.Outcome.next (State.windowCycle_quiet hs _)

/-- Settles O57: the write by its sticky causes, the read bit by bit. -/
theorem intcauseWriteClearsStickyCauses : Obligations.IntcauseWriteClearsStickyCauses := by
  refine fun data s hs => ⟨exec_intcauseWrite_quiet hs data, fun u => ?bits, State.readAt_of_ne (by decide)⟩
  case bits =>
    rw [State.intcause_getLsbD u (by decide), State.intcause_getLsbD u (by decide),
      State.intcause_getLsbD u (by decide), State.intcause_getLsbD u (by decide),
      State.intcause_getLsbD u (by decide)]
    exact ⟨u.causes_log, u.causes_fault, u.causes_lost, u.causes_port, u.causes_ovfl, u.intcause_toNat_lt⟩

end Sys2Proof.Machine
end

section
/-! The queue of commands waiting is the model's own: no operation of the part touches it, one lemma for each in the
order of their definitions, and so every command answers a next state with the queue it found. -/
namespace Sys2Proof.Machine

/-! ### The shared operations -/

@[simp] theorem State.pending_failUnit (s : State) (n : Fin 4) (kind : FaultKind) (dir : FaultDir)
    (addr : PhysAddr) : (s.failUnit n kind dir addr).pending = s.pending := by
  rw [State.failUnit_eq]

@[simp] theorem State.pending_offerRecord (s : State) (n : Fin 4) : (s.offerRecord n).pending = s.pending := by
  unfold State.offerRecord
  split <;> simp

@[simp] theorem State.pending_postHead (s : State) (n : Fin 4) (status : Status) :
    (s.postHead n status).pending = s.pending := by
  simp [State.postHead]

@[simp] theorem State.pending_takeWaiting (s : State) : s.takeWaiting.pending = s.pending := by
  unfold State.takeWaiting
  split <;> simp

@[simp] theorem State.pending_flushNow (s : State) (n : Fin 4) : (s.flushNow n).pending = s.pending := by rfl

@[simp] theorem State.pending_actPending (s : State) (n : Fin 4) : (s.actPending n).pending = s.pending := by
  unfold State.actPending
  dsimp only
  repeat' split
  all_goals simp

@[simp] theorem State.pending_beginWork (s : State) (w : Work) : (s.beginWork w).pending = s.pending := by
  rw [s.beginWork_eq w]

@[simp] theorem State.pending_giveUpGrant (s : State) : s.giveUpGrant.pending = s.pending := by
  rcases s.giveUpGrant_cases with ⟨h, -⟩ | ⟨h, -⟩ <;> simp [h]

@[simp] theorem State.pending_beginUnit (s : State) (n : Fin 4) (d : Descriptor) (src dst : Fin 4) :
    (s.beginUnit n d src dst).pending = s.pending :=
  s.pending_beginWork _

@[simp] theorem State.pending_startWake (s : State) (cause : WakeCause) :
    (s.startWake cause).pending = s.pending := by rfl

@[simp] theorem State.pending_enterParked (s : State) : s.enterParked.pending = s.pending := by
  unfold State.enterParked
  dsimp only
  split <;> simp

@[simp] theorem State.pending_beginParkStep (s : State) : s.beginParkStep.pending = s.pending := by
  unfold State.beginParkStep
  dsimp only
  repeat' split
  all_goals simp

/-! ### The grant decision -/

@[simp] theorem State.pending_grantProcessor (s : State) : s.grantProcessor.pending = s.pending := by
  unfold State.grantProcessor
  repeat' split
  all_goals simp

@[simp] theorem State.pending_grantChannel (s : State) (n : Fin 4) : (s.grantChannel n).pending = s.pending := by
  unfold State.grantChannel
  dsimp only
  repeat' split
  all_goals simp

@[simp] theorem State.pending_grantDecision (s : State) : s.grantDecision.pending = s.pending := by
  unfold State.grantDecision
  repeat' split
  all_goals simp [State.grantRefresh]

/-! ### The channels -/

@[simp] theorem State.pending_enqOn (s : State) (n : Fin 4) : (s.enqOn n).pending = s.pending := by
  unfold State.enqOn
  dsimp only
  repeat' split
  all_goals simp

@[simp] theorem State.pending_startOn (s : State) (n : Fin 4) : (s.startOn n).pending = s.pending := by
  unfold State.startOn
  dsimp only
  repeat' split
  all_goals simp

@[simp] theorem State.pending_holdOn (s : State) (n : Fin 4) : (s.holdOn n).pending = s.pending := by
  unfold State.holdOn
  dsimp only
  repeat' split
  all_goals simp

@[simp] theorem State.pending_resumeOn (s : State) (n : Fin 4) : (s.resumeOn n).pending = s.pending := by
  unfold State.resumeOn
  dsimp only
  repeat' split
  all_goals simp

@[simp] theorem State.pending_skipOn (s : State) (n : Fin 4) : (s.skipOn n).pending = s.pending := by
  unfold State.skipOn
  dsimp only
  repeat' split
  all_goals simp

@[simp] theorem State.pending_flushOn (s : State) (n : Fin 4) : (s.flushOn n).pending = s.pending := by
  unfold State.flushOn
  dsimp only
  split <;> simp

theorem State.pending_channelStrobe {f : State → Fin 4 → State} (s : State) (data : Byte)
    (hf : ∀ n, (f s n).pending = s.pending) : (s.channelStrobe data f).pending = s.pending := by
  unfold State.channelStrobe
  split
  · rfl
  · exact hf _

@[simp] theorem State.pending_writeChcfg (s : State) (data : Byte) : (s.writeChcfg data).pending = s.pending := by
  unfold State.writeChcfg
  split <;> simp

@[simp] theorem State.pending_overrunOn (s : State) (n : Fin 4) : (s.overrunOn n).pending = s.pending := by
  unfold State.overrunOn
  dsimp only
  repeat' split
  all_goals simp

@[simp] theorem State.pending_trqEdge (s : State) (n : Fin 4) : (s.trqEdge n).pending = s.pending := by
  unfold State.trqEdge
  dsimp only
  repeat' split
  all_goals simp

@[simp] theorem State.pending_finishUnit (s : State) (n : Fin 4) : (s.finishUnit n).pending = s.pending := by
  unfold State.finishUnit
  dsimp only
  repeat' split
  all_goals simp

/-! ### The logs, the refresh controller and the tables -/

@[simp] theorem State.pending_logpop (s : State) : s.logpop.pending = s.pending := by
  unfold State.logpop
  split <;> simp

@[simp] theorem State.pending_fltpop (s : State) : s.fltpop.pending = s.pending := by
  unfold State.fltpop
  split <;> rfl

@[simp] theorem State.pending_writeRfurg (s : State) (data : Byte) : (s.writeRfurg data).pending = s.pending := by
  unfold State.writeRfurg
  split <;> rfl

@[simp] theorem State.pending_expire (s : State) : s.expire.pending = s.pending := by
  unfold State.expire
  dsimp only
  split <;> rfl

@[simp] theorem State.pending_park (s : State) : s.park.pending = s.pending := by
  unfold State.park
  dsimp only
  repeat' split
  all_goals simp

@[simp] theorem State.pending_wake (s : State) : s.wake.pending = s.pending := by
  unfold State.wake
  split <;> rfl

@[simp] theorem State.pending_wload (s : State) (data : Byte) : (s.wload data).pending = s.pending := by
  unfold State.wload
  repeat' split
  all_goals rfl

@[simp] theorem State.pending_wread (s : State) (data : Byte) : (s.wread data).pending = s.pending := by
  unfold State.wread
  split <;> rfl

@[simp] theorem State.pending_recheckClaim (s : State) (n : Fin 4) : (s.recheckClaim n).pending = s.pending := by
  unfold State.recheckClaim
  repeat' split
  all_goals simp

theorem State.pending_foldl_recheckClaim (l : List (Fin 4)) (s : State) :
    (l.foldl State.recheckClaim s).pending = s.pending := by
  induction l generalizing s with
  | nil => rfl
  | cons n l ih => exact (ih _).trans (s.pending_recheckClaim n)

@[simp] theorem State.pending_recheckClaims (s : State) : s.recheckClaims.pending = s.pending := by
  unfold State.recheckClaims
  dsimp only
  split <;> exact State.pending_foldl_recheckClaim _ _

@[simp] theorem State.pending_markStale (s : State) (r : Fin 4) (old new : RegionEntry) :
    (s.markStale r old new).pending = s.pending := by
  unfold State.markStale
  split <;> rfl

@[simp] theorem State.pending_reloadRefresh (s : State) (before after : Bool) :
    (s.reloadRefresh before after).pending = s.pending := by
  unfold State.reloadRefresh
  repeat' split
  all_goals rfl

@[simp] theorem State.pending_rload (s : State) (data : Byte) : (s.rload data).pending = s.pending := by
  unfold State.rload
  repeat' split
  all_goals simp [State.loadRegion]

@[simp] theorem State.pending_rread (s : State) (data : Byte) : (s.rread data).pending = s.pending := by
  unfold State.rread
  split <;> rfl

@[simp] theorem State.pending_controllerReset (s : State) : s.controllerReset.pending = s.pending := by
  unfold State.controllerReset State.residualFromChannel
  dsimp only
  split <;> simp

/-! ### The register window -/

@[simp] theorem State.pending_readAt (s : State) (off : Offset) : (s.readAt off).pending = s.pending := by
  unfold State.readAt
  split <;> rfl

@[simp] theorem State.pending_writePlain (s : State) (off : Offset) (b : Byte) :
    (s.writePlain off b).pending = s.pending := by
  unfold State.writePlain
  dsimp only
  split <;> rfl

@[simp] theorem State.pending_writeAt (s : State) (off : Offset) (b : Byte) :
    (s.writeAt off b).pending = s.pending := by
  unfold State.writeAt
  split
  · exact s.pending_channelStrobe b s.pending_enqOn
  · exact s.pending_channelStrobe b s.pending_startOn
  · exact s.pending_channelStrobe b s.pending_holdOn
  · exact s.pending_channelStrobe b s.pending_resumeOn
  · exact s.pending_channelStrobe b s.pending_skipOn
  · exact s.pending_channelStrobe b s.pending_flushOn
  all_goals simp [State.writeRfint, State.writeArbmode, State.writeInten, State.writeIntcause]

theorem State.pending_windowCycle {f : State → State} (hf : ∀ u, (f u).pending = u.pending) (s : State) :
    (s.windowCycle f).pending = s.pending := by
  rcases s.windowCycle_cases f with ⟨p, h⟩ | ⟨p, h⟩ <;> rw [h]
  exact hf _

@[simp] theorem State.pending_serveWindow (s : State) (pins : BusPins) :
    (s.serveWindow pins).pending = s.pending := by
  unfold State.serveWindow
  dsimp only
  split <;> simp

/-! ### The processor's memory cycles -/

@[simp] theorem State.pending_endCycle (s : State) : s.endCycle.pending = s.pending := by
  unfold State.endCycle
  split <;> rfl

@[simp] theorem State.pending_releaseProcessor (s : State) (c : CycleRecord) :
    (s.releaseProcessor c).pending = s.pending := by
  unfold State.releaseProcessor
  split <;> rfl

@[simp] theorem State.pending_faultCycle (s : State) (c : CycleRecord) (kind : FaultKind) :
    (s.faultCycle c kind).pending = s.pending := by
  simp [State.faultCycle]

@[simp] theorem State.pending_lookUpCycle (s : State) (pins : BusPins) :
    (s.lookUpCycle pins).pending = s.pending := by
  rcases State.lookUpCycle_cases s.wtu s.rgd.regions pins with ⟨c, h⟩ | ⟨c, kind, h⟩ | ⟨dir, pa, n, -, h⟩ <;>
    rw [h s rfl rfl]
  · unfold State.standAside
    split <;> rfl
  · simp
  · unfold State.raiseClaim
    dsimp only
    split <;> rfl

@[simp] theorem State.pending_beginMemoryCycle (s : State) (pins : BusPins) :
    (s.beginMemoryCycle pins).pending = s.pending := by
  unfold State.beginMemoryCycle
  rw [s.newCycle_eq]
  dsimp only
  repeat' split
  all_goals simp

/-! ### The memory sequencer -/

@[simp] theorem State.pending_finishAccess (s : State) (md : Byte) : (s.finishAccess md).pending = s.pending := by
  unfold State.finishAccess
  split <;> simp

@[simp] theorem State.pending_finishRead (s : State) (n : Fin 4) (dst : Access) (md : Byte) :
    (s.finishRead n dst md).pending = s.pending := by
  simp [State.finishRead]

@[simp] theorem State.pending_finishRowOpen (s : State) (w : Work) (a : Access) :
    (s.finishRowOpen w a).pending = s.pending := by
  unfold State.finishRowOpen
  dsimp only
  split <;> simp

@[simp] theorem State.pending_finishRowClose (s : State) (w : Work) : (s.finishRowClose w).pending = s.pending := by
  unfold State.finishRowClose
  dsimp only
  repeat' split
  all_goals simp

@[simp] theorem State.pending_timeoutUnit (s : State) (n : Fin 4) (a : Access) :
    (s.timeoutUnit n a).pending = s.pending := by
  unfold State.timeoutUnit
  dsimp only
  split <;> simp

@[simp] theorem State.pending_reportTimeout (s : State) (a : Access) : (s.reportTimeout a).pending = s.pending := by
  unfold State.reportTimeout
  repeat' split
  all_goals simp

@[simp] theorem State.pending_endInTimeout (s : State) (a : Access) : (s.endInTimeout a).pending = s.pending := by
  unfold State.endInTimeout
  dsimp only
  split <;> simp

/-! ### Every command -/

/-- The outcome is a next state with the queue of `s`. -/
def KeepsQueue (s : State) (o : Host.Outcome State Fault Refusal) : Prop := ∃ t, o = .next t ∧ t.pending = s.pending

@[simp] theorem keepsQueue_next {s t : State} : KeepsQueue s (.next t) ↔ t.pending = s.pending := by
  simp [KeepsQueue]

/-- Of a command that is no register window write, each outcome is that nothing happens (log 3) or one call of the
operations above. -/
theorem exec_keepsQueue_of_event {c : Instr} (hw : c.windowWrite = none) (s : State) : KeepsQueue s (exec c s) := by
  cases c with
  | enq | start | hold | resume | skip | flush | wload | wread | rload | rread | logpop | fltpop | park | wake
  | ctlrst | rfintWrite | rfurgWrite | chcfgWrite | intcauseWrite | intenWrite | arbmodeWrite | registerWrite =>
    cases hw
  | chstatRead off => exact keepsQueue_next.mpr (State.pending_windowCycle (fun u => u.pending_readAt off) s)
  | pinReset => exact ⟨_, rfl, rfl⟩
  | memoryCycle pins => exact ⟨_, rfl, s.pending_beginMemoryCycle pins⟩
  | trqAssert n => exact ⟨_, rfl, s.pending_trqEdge n⟩
  | portGrant => exact ⟨_, rfl, s.pending_grantDecision⟩
  | completionRecordTaken => exact ⟨_, rfl, s.pending_takeWaiting⟩
  | heldCycleServed | cycleEnd | trqDeassert | accessComplete | unitReadComplete | unitComplete | pendingFlagsActed
  | configurationInUse | rowOpen | rowClose | timeout | residualEnd | refresh | intervalTimerExpiry | parkStep
  | selfRefreshEnter | selfRefreshExit =>
    simp only [exec, execHeldCycleServed, execCycleEnd, execTrqDeassert, execAccessComplete, execUnitReadComplete,
      execUnitComplete, execPendingFlagsActed, execConfigurationInUse, execRowOpen, execRowClose, execTimeout,
      execResidualEnd, execRefresh, execIntervalTimerExpiry, execParkStep, execSelfRefreshEnter,
      execSelfRefreshExit]
    repeat' split
    all_goals simp [State.finishRefresh, State.finishWake]

/-- Settles O2: a register window write by its service on the bus as it stands, every other command by its outcomes. -/
theorem everyCommandAnswersNext : Obligations.EveryCommandAnswersNext := by
  intro c s
  cases hw : c.windowWrite with
  | some w =>
    exact ⟨_, exec_of_windowWrite (off := w.1) (data := w.2) hw s,
      State.pending_windowCycle (fun u => u.pending_writeAt w.1 w.2) s⟩
  | none => exact exec_keepsQueue_of_event hw s

end Sys2Proof.Machine
end

section
/-! Register window writes (11.1, 11.6): which offsets have a command of their own, and what the write of a plain
register stores. -/
namespace Sys2Proof.Machine

/-! ### Offsets without a command of their own (R154, 11.6) -/

/-- The offsets at which a write is a command: the strobes, and the read-write registers with a behaviour of their
own. -/
def commandOffsets : List Nat :=
  [0x0A, 0x0B, 0x0C, 0x0D, 0x0E, 0x0F, 0x1D, 0x25, 0x26, 0x2E, 0x2F, 0x36, 0x40, 0x44, 0x45, 0x46, 0x48, 0x49, 0x4C,
   0x4D, 0x4E, 0x4F]

theorem Offset.no_command_of_plain : ∀ off : Offset, off.plain = true → off.toNat ∉ commandOffsets := by decide

theorem Offset.no_command_of_ignored :
    ∀ off : Offset, off.access = .readOnly ∨ off.access = .unused → off.toNat ∉ commandOffsets := by decide

theorem Offset.not_plain_of_ignored :
    ∀ off : Offset, off.access = .readOnly ∨ off.access = .unused → off.plain = false := by decide

theorem Offset.plain_iff {off : Offset} :
    off.plain = true ↔
      off.toNat ≤ 0x09 ∨ off.toNat = 0x12 ∨ (0x20 ≤ off.toNat ∧ off.toNat ≤ 0x24) ∨
        (0x28 ≤ off.toNat ∧ off.toNat ≤ 0x2D) := by
  simp [Offset.plain, or_assoc]

theorem State.writeAt_no_command {off : Offset} (h : off.toNat ∉ commandOffsets) (s : State) (b : Byte) :
    s.writeAt off b = s.writePlain off b := by
  simp only [commandOffsets, List.mem_cons, List.not_mem_nil, or_false] at h
  unfold State.writeAt
  split
  any_goals rfl
  all_goals omega

theorem State.writePlain_not_plain {off : Offset} (h : off.plain = false) (s : State) (b : Byte) :
    s.writePlain off b = s := by
  have hoff := mt Offset.plain_iff.mpr (Bool.eq_false_iff.mp h)
  unfold State.writePlain
  dsimp only
  split
  any_goals rfl
  all_goals omega

theorem exec_registerWrite_no_command {s : State} (hs : s.busQuiet) {off : Offset} (h : off.toNat ∉ commandOffsets)
    (data : Byte) : exec (.registerWrite off data) s = .next (s.released.writePlain off data) := by
  rw [exec_of_windowWrite rfl, State.windowCycle_quiet hs, State.writeAt_no_command h]

/-- Settles O12: both sides are the service of one write; an ignored offset has no command and stores nothing. -/
theorem registerWriteElsewhereFollowsTheMap : Obligations.RegisterWriteElsewhereFollowsTheMap := by
  refine ⟨fun c off data s hw => ?own, fun off data s hs hoff => ?ignored, fun d => ?map, fun u => ⟨rfl, fun _ => rfl⟩⟩
  case own => rw [exec_of_windowWrite hw, exec_of_windowWrite rfl]
  case ignored =>
    rw [exec_registerWrite_no_command hs (Offset.no_command_of_ignored off hoff),
      State.writePlain_not_plain (Offset.not_plain_of_ignored off hoff)]
  case map => simp [Instr.windowWrite]

/-! ### Bytes of a register -/

theorem getLsbD_getByte {w : Nat} (v : BitVec w) (k : Nat) {i : Nat} (hi : i < 8) :
    (getByte v k).getLsbD i = v.getLsbD (8 * k + i) := by
  simp [getByte, hi]

theorem getLsbD_setByte {w : Nat} (v : BitVec w) (k : Nat) (b : Byte) {n : Nat} (hn : n < w) :
    (setByte v k b).getLsbD n = if 8 * k ≤ n ∧ n - 8 * k < 8 then b.getLsbD (n - 8 * k) else v.getLsbD n := by
  have hmask : Nat.testBit 0xFF (n - 8 * k) = decide (n - 8 * k < 8) := Nat.testBit_two_pow_sub_one 8 _
  have hsub : n - 8 * k < w := by omega
  simp only [setByte, BitVec.getLsbD_or, BitVec.getLsbD_and, BitVec.getLsbD_not, BitVec.getLsbD_shiftLeft,
    BitVec.getLsbD_setWidth, BitVec.getLsbD_ofNat, hmask, hn, hsub]
  by_cases hlow : 8 * k ≤ n
  · by_cases hhigh : n - 8 * k < 8
    · simp [hlow, hhigh, Nat.not_lt.mpr hlow]
    · simp [hhigh, BitVec.getLsbD_of_ge b _ (Nat.not_lt.mp hhigh)]
  · simp [hlow, Nat.not_le.mp hlow]

/-- The byte written reads back, and the other bytes of the register keep their values (R154). -/
theorem getByte_setByte {w : Nat} (v : BitVec w) {k j : Nat} (hk : 8 * k + 8 ≤ w) (hj : 8 * j + 8 ≤ w) (b : Byte) :
    getByte (setByte v k b) j = if j = k then b else getByte v j := by
  refine BitVec.eq_of_getLsbD_eq fun i hi => ?_
  rw [getLsbD_getByte _ _ hi, getLsbD_setByte _ _ _ (by omega)]
  by_cases hjk : j = k
  · subst hjk
    simp [hi]
  · rw [if_neg hjk, if_neg (by omega), getLsbD_getByte _ _ hi]

/-! ### The staging records, register by register (11.6)

Each record is the list of the bytes its registers show, so that a write of one register is `List.set`. -/

def DescStaging.bytes (d : DescStaging) : List Byte :=
  [getByte d.dsrc 0, getByte d.dsrc 1, getByte d.dsrc 2, getByte d.ddst 0, getByte d.ddst 1, getByte d.ddst 2,
   getByte d.dcnt 0, getByte d.dcnt 1, d.dmode, d.dtag]

def WindowStaging.bytes (w : WindowStaging) : List Byte :=
  [w.wbase, w.wcount, getByte w.wframe 0, getByte w.wframe 1, w.wflags.setWidth 8]

def RegionStaging.bytes (r : RegionStaging) : List Byte :=
  [getByte r.rstart 0, getByte r.rstart 1, getByte r.rend 0, getByte r.rend 1, r.rkind.setWidth 8, r.rattr]

/-- What a plain register reads after a byte is written to it: WFLAGS keeps three bits, RKIND six, CHSEL two (11.8). -/
def storedByte (off : Offset) (data : Byte) : Byte :=
  if off = 0x24 then data &&& 0x07 else if off = 0x2C then data &&& 0x3F
  else if off = 0x12 then data &&& 0x03 else data

theorem byte_low3_setWidth (data : Byte) : (data.setWidth 3).setWidth 8 = data &&& 0x07 := by
  revert data; decide

theorem byte_low6_setWidth (data : Byte) : (data.setWidth 6).setWidth 8 = data &&& 0x3F := by
  revert data; decide

theorem chselOf_byte (data : Byte) : BitVec.ofNat 8 (chselOf data).val = data &&& 0x03 := by
  revert data; decide

/-- The registers from `base` on show the bytes `l`. -/
def State.Shows (s : State) (base : Nat) (l : List Byte) : Prop :=
  ∀ off : Offset, base ≤ off.toNat → off.toNat < base + l.length →
    s.readRegister off = l.getD (off.toNat - base) 0

/-- The registers of the descriptor staging record (R94). -/
theorem Offset.descriptorStaging {off : Offset} (h : off.toNat < 0x00 + 10) :
    off = 0x00 ∨ off = 0x01 ∨ off = 0x02 ∨ off = 0x03 ∨ off = 0x04 ∨ off = 0x05 ∨ off = 0x06 ∨ off = 0x07 ∨
      off = 0x08 ∨ off = 0x09 := by
  bv_omega

/-- The registers of the window staging record (R8). -/
theorem Offset.windowStaging {off : Offset} (hlow : 0x20 ≤ off.toNat) (hhigh : off.toNat < 0x20 + 5) :
    off = 0x20 ∨ off = 0x21 ∨ off = 0x22 ∨ off = 0x23 ∨ off = 0x24 := by
  bv_omega

/-- The registers of the region staging record (R23). -/
theorem Offset.regionStaging {off : Offset} (hlow : 0x28 ≤ off.toNat) (hhigh : off.toNat < 0x28 + 6) :
    off = 0x28 ∨ off = 0x29 ∨ off = 0x2A ∨ off = 0x2B ∨ off = 0x2C ∨ off = 0x2D := by
  bv_omega

theorem State.shows_descriptor (s : State) : s.Shows 0x00 s.txe.staging.bytes := by
  intro off _ hhigh
  rcases Offset.descriptorStaging hhigh with rfl | rfl | rfl | rfl | rfl | rfl | rfl | rfl | rfl | rfl <;> rfl

theorem State.shows_window (s : State) : s.Shows 0x20 s.wtu.staging.bytes := by
  intro off hlow hhigh
  rcases Offset.windowStaging hlow hhigh with rfl | rfl | rfl | rfl | rfl <;> rfl

theorem State.shows_region (s : State) : s.Shows 0x28 s.rgd.staging.bytes := by
  intro off hlow hhigh
  rcases Offset.regionStaging hlow hhigh with rfl | rfl | rfl | rfl | rfl | rfl <;> rfl

/-! ### What no register outside a record shows -/

theorem State.readRegister_withDescStaging (s : State) (d : DescStaging) {off : Offset}
    (h : ¬ (0x00 ≤ off.toNat ∧ off.toNat < 0x00 + 10)) :
    State.readRegister { s with txe := { s.txe with staging := d } } off = s.readRegister off := by
  unfold State.readRegister
  split
  any_goals rfl
  all_goals omega

theorem State.readRegister_withWindowStaging (s : State) (w : WindowStaging) {off : Offset}
    (h : ¬ (0x20 ≤ off.toNat ∧ off.toNat < 0x20 + 5)) :
    State.readRegister { s with wtu := { s.wtu with staging := w } } off = s.readRegister off := by
  unfold State.readRegister
  split
  any_goals rfl
  all_goals omega

theorem State.readRegister_withRegionStaging (s : State) (r : RegionStaging) {off : Offset}
    (h : ¬ (0x28 ≤ off.toNat ∧ off.toNat < 0x28 + 6)) :
    State.readRegister { s with rgd := { s.rgd with staging := r } } off = s.readRegister off := by
  unfold State.readRegister
  split
  any_goals rfl
  all_goals omega

/-- CHSEL is seen in itself and in the views of CHSTAT and CHCFG alone (R156). -/
theorem State.readRegister_withChsel (s : State) (n : Fin 4) {off : Offset}
    (h : off ≠ 0x12 ∧ off ≠ 0x13 ∧ off ≠ 0x1D) :
    State.readRegister { s with win := { s.win with chsel := n } } off = s.readRegister off := by
  have hnat : off.toNat ≠ 0x12 ∧ off.toNat ≠ 0x13 ∧ off.toNat ≠ 0x1D := by bv_omega
  unfold State.readRegister
  split
  any_goals rfl
  all_goals omega

/-! ### The write of a plain register (R154) -/

theorem State.writePlain_descriptor (s : State) {off : Offset} (h : off.toNat < 0x00 + 10) (b : Byte) :
    ∃ d, s.writePlain off b = { s with txe := { s.txe with staging := d } } ∧
      d.bytes = s.txe.staging.bytes.set (off.toNat - 0x00) (storedByte off b) := by
  rcases Offset.descriptorStaging h with rfl | rfl | rfl | rfl | rfl | rfl | rfl | rfl | rfl | rfl <;>
    exact ⟨_, rfl, by simp [DescStaging.bytes, getByte_setByte, storedByte]⟩

theorem State.writePlain_window (s : State) {off : Offset} (hlow : 0x20 ≤ off.toNat) (hhigh : off.toNat < 0x20 + 5)
    (b : Byte) :
    ∃ w, s.writePlain off b = { s with wtu := { s.wtu with staging := w } } ∧
      w.bytes = s.wtu.staging.bytes.set (off.toNat - 0x20) (storedByte off b) := by
  rcases Offset.windowStaging hlow hhigh with rfl | rfl | rfl | rfl | rfl <;>
    exact ⟨_, rfl, by simp [WindowStaging.bytes, getByte_setByte, storedByte, byte_low3_setWidth]⟩

theorem State.writePlain_region (s : State) {off : Offset} (hlow : 0x28 ≤ off.toNat) (hhigh : off.toNat < 0x28 + 6)
    (b : Byte) :
    ∃ r, s.writePlain off b = { s with rgd := { s.rgd with staging := r } } ∧
      r.bytes = s.rgd.staging.bytes.set (off.toNat - 0x28) (storedByte off b) := by
  rcases Offset.regionStaging hlow hhigh with rfl | rfl | rfl | rfl | rfl | rfl <;>
    exact ⟨_, rfl, by simp [RegionStaging.bytes, getByte_setByte, storedByte, byte_low6_setWidth]⟩

/-- With one byte of the shown ones replaced, that register reads the byte and every other as before. -/
theorem State.Shows.set {s t : State} {base : Nat} {l m : List Byte} {off : Offset} {b : Byte} (hs : s.Shows base l)
    (ht : t.Shows base m) (hm : m = l.set (off.toNat - base) b)
    (hout : ∀ o : Offset, ¬ (base ≤ o.toNat ∧ o.toNat < base + l.length) → t.readRegister o = s.readRegister o)
    (hlow : base ≤ off.toNat) (hhigh : off.toNat < base + l.length) :
    t.readRegister off = b ∧ ∀ other, other ≠ off → t.readRegister other = s.readRegister other := by
  have hlen : m.length = l.length := by rw [hm, List.length_set]
  refine ⟨?_, fun other hne => ?_⟩
  · rw [ht off hlow (hlen ▸ hhigh), hm]
    have hidx : off.toNat - base < l.length := by omega
    simp [hidx]
  · by_cases hin : base ≤ other.toNat ∧ other.toNat < base + l.length
    · have hidx : off.toNat - base ≠ other.toNat - base := by bv_omega
      obtain ⟨hl, hh⟩ := hin
      rw [ht other hl (hlen ▸ hh), hs other hl hh, hm]
      simp [hidx]
    · exact hout other hin

/-- What is read after the write of a plain register: in it what it stored, in every other register what was there,
but for the views CHSEL turns. -/
theorem State.readRegister_writePlain (s : State) {off : Offset} (hplain : off.plain = true) (b : Byte) :
    (s.writePlain off b).readRegister off = storedByte off b ∧
      ∀ other, other ≠ off → (off = 0x12 → other ≠ 0x13 ∧ other ≠ 0x1D) →
        (s.writePlain off b).readRegister other = s.readRegister other := by
  rcases Offset.plain_iff.mp hplain with hdesc | hchsel | ⟨hlow, hhigh⟩ | ⟨hlow, hhigh⟩
  · obtain ⟨d, ht, hbytes⟩ := s.writePlain_descriptor (by omega : off.toNat < 0x00 + 10) b
    obtain ⟨hown, hother⟩ := s.shows_descriptor.set (State.shows_descriptor _) hbytes
      (fun _ => s.readRegister_withDescStaging d) (Nat.zero_le _) (Nat.lt_succ_of_le hdesc)
    rw [ht]
    exact ⟨hown, fun other hne _ => hother other hne⟩
  · obtain rfl : off = 0x12 := by bv_omega
    refine ⟨chselOf_byte b, fun other hne hview => ?_⟩
    obtain ⟨hstat, hcfg⟩ := hview rfl
    exact s.readRegister_withChsel (chselOf b) ⟨hne, hstat, hcfg⟩
  · obtain ⟨w, ht, hbytes⟩ := s.writePlain_window hlow (Nat.lt_succ_of_le hhigh) b
    obtain ⟨hown, hother⟩ := s.shows_window.set (State.shows_window _) hbytes
      (fun _ => s.readRegister_withWindowStaging w) hlow (Nat.lt_succ_of_le hhigh)
    rw [ht]
    exact ⟨hown, fun other hne _ => hother other hne⟩
  · obtain ⟨r, ht, hbytes⟩ := s.writePlain_region hlow (Nat.lt_succ_of_le hhigh) b
    obtain ⟨hown, hother⟩ := s.shows_region.set (State.shows_region _) hbytes
      (fun _ => s.readRegister_withRegionStaging r) hlow (Nat.lt_succ_of_le hhigh)
    rw [ht]
    exact ⟨hown, fun other hne _ => hother other hne⟩

/-- The write of a plain register touches the staging records and CHSEL alone. -/
theorem State.writePlain_eq (s : State) (off : Offset) (b : Byte) :
    ∃ d w r n, s.writePlain off b = { s with
      txe := { s.txe with staging := d }, wtu := { s.wtu with staging := w }, rgd := { s.rgd with staging := r },
      win := { s.win with chsel := n } } := by
  unfold State.writePlain
  dsimp only
  split <;> exact ⟨_, _, _, _, rfl⟩

/-- Settles O11: what the write touches by `State.writePlain_eq`, what is read after it by
`State.readRegister_writePlain`, and what is read in any state register by register. -/
theorem plainRegisterWriteStoresItsByte : Obligations.PlainRegisterWriteStoresItsByte := by
  refine ⟨fun off data s hs hplain => ?write, fun u => ?read⟩
  case write =>
    obtain ⟨d, w, r, n, ht⟩ := s.released.writePlain_eq off data
    obtain ⟨hown, hother⟩ := s.released.readRegister_writePlain hplain data
    refine ⟨_, exec_registerWrite_no_command hs (Offset.no_command_of_plain off hplain) data, ?_, ?_, ?_, ?_, ?_, ?_,
      ?_, ?_, ?_, ?_, ?_, ?_, ?_, ?_, ?_, hown, hother⟩ <;> simp [ht]
  case read =>
    have hchsel : (u.readRegister 0x12).toNat = u.win.chsel.val :=
      (BitVec.toNat_ofNat _ _).trans (Nat.mod_eq_of_lt (by omega))
    exact ⟨getByte_join24 u.txe.staging.dsrc, getByte_join24 u.txe.staging.ddst, getByte_join16 u.txe.staging.dcnt,
      rfl, rfl, hchsel, rfl, rfl, getByte_join16 u.wtu.staging.wframe,
      BitVec.toNat_setWidth_of_le (by decide), getByte_join16 u.rgd.staging.rstart,
      getByte_join16 u.rgd.staging.rend, BitVec.toNat_setWidth_of_le (by decide), rfl⟩

end Sys2Proof.Machine
end

section
/-! Register window reads (11.1, 11.3): the snapshot of a channel, CHSTAT_READ, and the codes RESULT reads. -/
namespace Sys2Proof.Machine

/-! ### The snapshot (R157, 11.8) -/

theorem Channel.snapshot_chstat (c : Channel) :
    c.snapshot.chstat = BitVec.ofBool c.overrun ++ c.state.code ++ BitVec.ofNat 4 c.queue.length := by
  unfold Channel.snapshot
  dsimp only
  split <;> rfl

theorem Channel.snapshot_chpend (c : Channel) :
    c.snapshot.chpend = (0 : BitVec 6) ++ BitVec.ofBool c.flushPending ++ BitVec.ofBool c.holdPending := by
  unfold Channel.snapshot
  dsimp only
  split <;> rfl

/-- CHSTAT: the overrun flag in bit 7, the state code in bits 6 to 4, the depth in bits 3 to 0. -/
theorem Channel.chstat_toNat {c : Channel} (h : c.queue.length ≤ 8) :
    c.snapshot.chstat.toNat = 128 * c.overrun.toNat + 16 * c.state.code.toNat + c.queue.length := by
  rw [Channel.snapshot_chstat, BitVec.toNat_append, ← Nat.shiftLeft_add_eq_or_of_lt (BitVec.isLt _),
    BitVec.toNat_append, ← Nat.shiftLeft_add_eq_or_of_lt (BitVec.isLt _)]
  simp [Nat.shiftLeft_eq]
  omega

/-- CHPEND: flush pending in bit 1, hold pending in bit 0. -/
theorem Channel.chpend_toNat (c : Channel) :
    c.snapshot.chpend.toNat = 2 * c.flushPending.toNat + c.holdPending.toNat := by
  rw [Channel.snapshot_chpend, BitVec.toNat_append, ← Nat.shiftLeft_add_eq_or_of_lt (BitVec.isLt _),
    BitVec.toNat_append, ← Nat.shiftLeft_add_eq_or_of_lt (BitVec.isLt _)]
  simp [Nat.shiftLeft_eq]
  omega

theorem Channel.snapshot_empty {c : Channel} (hq : c.queue = []) :
    c.snapshot.chsrc = 0 ∧ c.snapshot.chdst = 0 ∧ c.snapshot.chrem = 0 ∧ c.snapshot.chtag = 0 := by
  simp [Channel.snapshot, hq]

theorem Channel.snapshot_head {c : Channel} {d : Descriptor} {rest : List Descriptor} (hq : c.queue = d :: rest) :
    c.snapshot.chsrc = d.curSrc ∧ c.snapshot.chdst = d.curDst ∧ c.snapshot.chrem = d.remaining ∧
      c.snapshot.chtag = d.tag := by
  simp [Channel.snapshot, hq]

/-! ### A register read (R153, R154, R156) -/

theorem exec_chstatRead_quiet {s : State} (hs : s.busQuiet) (off : Offset) :
    exec (.chstatRead off) s = .next (s.released.readAt off) :=
  congrArg Host.Outcome.next (State.windowCycle_quiet hs _)

theorem State.readRegister_result (s : State) : s.readRegister 0x10 = s.win.result.byte := by rfl

/-- Strobes and unused offsets read 00h (R154, 11.6). -/
theorem State.readRegister_blank (s : State) {off : Offset}
    (h : (0x0A ≤ off.toNat ∧ off.toNat ≤ 0x0F) ∨ off.toNat = 0x1F ∨ (0x25 ≤ off.toNat ∧ off.toNat ≤ 0x27) ∨
      off.toNat = 0x2E ∨ off.toNat = 0x2F ∨ off.toNat = 0x36 ∨ off.toNat = 0x37 ∨
      (0x40 ≤ off.toNat ∧ off.toNat ≤ 0x43) ∨ (0x48 ≤ off.toNat ∧ off.toNat ≤ 0x4B) ∨ 0x4F ≤ off.toNat) :
    s.readRegister off = 0 := by
  unfold State.readRegister
  split
  any_goals rfl
  all_goals omega

/-- Settles O14: the capture by the snapshot of the selected channel, every other read by `State.readAt_of_ne`, what
the registers show one by one. -/
theorem chstatReadCapturesTheChannel : Obligations.ChstatReadCapturesTheChannel := by
  refine ⟨fun s hs hlen => ?capture, fun off s hs hne => ?read, fun s => ?result, fun u => ?snapshot,
    fun u off => u.readRegister_blank⟩
  case capture =>
    refine ⟨(s.chan s.win.chsel).snapshot, exec_chstatRead_quiet hs 0x13, ?_, Channel.chpend_toNat _,
      Channel.snapshot_empty, fun _ _ => Channel.snapshot_head⟩
    rw [Channel.chstat_toNat hlen]
    cases (s.chan s.win.chsel).state <;> rfl
  case read =>
    rw [exec_chstatRead_quiet hs, State.readAt_of_ne hne]
    rfl
  case result =>
    rw [State.readRegister_result]
    cases s.win.result <;> rfl
  case snapshot =>
    exact ⟨getByte_join24 u.win.snapshot.chsrc, getByte_join24 u.win.snapshot.chdst,
      getByte_join16 u.win.snapshot.chrem, rfl, rfl⟩

end Sys2Proof.Machine
end

section
/-! The two resets (11.4, 11.5). -/
namespace Sys2Proof.Machine

/-! ### Controller reset (R158) -/

theorem State.residualFromChannel_of_channel {s : State} {n : Fin 4} {o : Operation}
    (hholder : s.parb.holder = .channel n) (ho : s.mseq.op = some o) :
    s.residualFromChannel = { s with parb := { s.parb with holder := .residual } } := by
  simp only [State.residualFromChannel, hholder, State.giveUpGrant_inProgress ho]

theorem State.residualFromChannel_of_other {s : State} (h : ∀ n, s.parb.holder ≠ .channel n) :
    s.residualFromChannel = s := by
  unfold State.residualFromChannel
  split
  next n hn => exact absurd hn (h n)
  all_goals rfl

/-- The passing of the grant touches PARB's holder and, with nothing in progress, the operation of MSEQ. -/
theorem State.residualFromChannel_eq (s : State) :
    ∃ x op e, s.residualFromChannel =
      { s with parb := { s.parb with holder := x }, mseq := { s.mseq with op := op, extension := e } } := by
  unfold State.residualFromChannel
  split
  next =>
    rcases s.giveUpGrant_cases with ⟨h, -⟩ | ⟨h, -⟩ <;> rw [h] <;> exact ⟨_, _, _, rfl⟩
  all_goals exact ⟨s.parb.holder, s.mseq.op, s.mseq.extension, rfl⟩

theorem State.chan_controllerReset (s : State) (n : Fin 4) :
    s.controllerReset.chan n = Channel.reset (s.chan n).trq := by
  obtain ⟨x, op, e, h⟩ := s.residualFromChannel_eq
  simp [State.controllerReset, h, State.chan]

/-- Settles O59: the blocks a controller reset clears by its definition, the grant by its holder, the channels by
`State.chan_controllerReset`. -/
theorem controllerResetReachesTheChannelsAndLogs : Obligations.ControllerResetReachesTheChannelsAndLogs := by
  intro data s hs
  refine ⟨s.released.controllerReset, exec_ctlrst_quiet hs data, s.released.chan_controllerReset, ?_⟩
  obtain ⟨x, op, e, h⟩ := s.released.residualFromChannel_eq
  refine ⟨rfl, ?_, rfl, rfl, rfl, rfl, ?_, rfl, ?_, rfl, rfl, ?_, fun n o hholder ho => ?channel,
    fun hother => ?other, ?_, ?_, ?_, ?_, ?_, ?_, State.irq_of_no_cause (State.controllerReset_causes _)⟩
  case channel => simp [State.controllerReset, State.residualFromChannel_of_channel (s := s.released) hholder ho]
  case other => simp [State.controllerReset, State.residualFromChannel_of_other (s := s.released) hother]
  all_goals simp [State.controllerReset, h]

/-! ### Pin reset (R159) -/

theorem exec_pinReset (s : State) : exec .pinReset s = .next s.pinReset := by rfl

theorem State.chan_pinReset (s : State) (n : Fin 4) : s.pinReset.chan n = Channel.reset (s.chan n).trq := by
  simp [State.pinReset, State.chan, Txe.reset]

/-- The request lines, which alone of the part keep their levels, are shown by no register. -/
theorem State.readRegister_pinReset (s : State) (off : Offset) :
    s.pinReset.readRegister off = State.reset.readRegister off := by rfl

theorem State.readRegister_reset : ∀ off : Offset, State.reset.readRegister off =
    if off = 0x1D then 4 else if off = 0x21 then 1 else if off = 0x46 then 4 else 0 := by decide

theorem Wtu.reset_windows (i : Fin 8) : Wtu.reset.windows.get i =
    if i = 0 then
      { enable := true, basePage := 0, pageCount := 16, frameBase := 0, readRight := true, writeRight := true }
    else WindowEntry.reset := by
  revert i; decide

theorem Rgd.reset_regions (n : Fin 4) : Rgd.reset.regions.get n =
    { RegionEntry.reset with enable := n == 0, endFrame := if n = 0 then 0x0FF else 0 } := by
  revert n; decide

/-- Settles O60: every register by the reset state's, the channels by `State.chan_pinReset`, the tables entry by entry,
every other block by its definition. -/
theorem pinResetGivesTheMapsValues : Obligations.PinResetGivesTheMapsValues := by
  intro s
  refine ⟨s.pinReset, exec_pinReset s, fun off => ?registers, rfl, rfl, rfl, rfl, rfl, rfl, rfl, rfl,
    State.irq_of_no_cause s.pinReset_causes, rfl, fun n => ?channels, rfl, rfl, rfl, rfl, rfl, rfl,
    Wtu.reset_windows, Rgd.reset_regions, rfl⟩
  case registers => rw [State.readRegister_pinReset, State.readRegister_reset]
  case channels =>
    rw [State.takPin, State.chan_pinReset]
    exact ⟨rfl, rfl, rfl, rfl, rfl, rfl, rfl, rfl, rfl, rfl, rfl, rfl⟩

end Sys2Proof.Machine
end

section
/-! The step with a command waiting, and the invariants in the state a run begins from (10.8, 11.5). -/
namespace Sys2Proof.Machine

/-- Settles O1: of the two branches of the step, the one of a queue that is not empty. -/
theorem stepRunsFrontCommand : Obligations.StepRunsFrontCommand := by
  intro c rest s hpending
  unfold step
  rw [hpending]

/-! ### The state after pin reset (R159) -/

theorem State.reset_chan : ∀ n : Fin 4, State.reset.chan n = Channel.reset false := by decide

theorem State.reset_tablesOk : State.reset.TablesOk := State.reset.pinReset_tablesOk

theorem State.reset_capacityOk : State.reset.CapacityOk := by
  refine State.capacityOk_iff.mpr ⟨fun n => ?channel, ?completions, ?flushn, ?counts⟩
  case channel =>
    rw [State.reset_chan]
    decide
  all_goals decide

/-- No record stands in the log, so no sequence number is asked for. -/
theorem State.reset_sequenceOk : State.reset.SequenceOk := by
  unfold State.SequenceOk
  trivial

/-- Every channel is OFF, with no claim and no grant. -/
theorem State.reset_channelsOk : State.reset.ChannelsOk := by
  refine State.channelsOk_iff.mpr fun n => State.Fits.of_free ?core ?port ?busy ?posting ?holder
  case holder => nofun
  all_goals rw [State.reset_chan]
  case core => exact (Channel.ok_iff.mp (Channel.reset_ok false)).1
  case port => rfl
  case busy => nofun
  case posting => nofun

/-- Settles O4: the tables, the capacities, the sequence numbers and the channels each by its lemma here, the port, the
bus, the sequencer and the row record by `State.reset_portInv`. -/
theorem resetMeetsEveryInvariant : Obligations.ResetMeetsEveryInvariant where
  tables := State.reset_tablesOk
  capacity := State.reset_capacityOk
  sequence := State.reset_sequenceOk
  port := State.reset_portInv.port
  channels := State.reset_channelsOk
  pbi := State.reset_portInv.pbi
  mseq := State.reset_portInv.mseq
  record := State.reset_portInv.record

end Sys2Proof.Machine
end
